-- ==== Sys2Proof/Word.lean ====
section
/-! DEFINITION. The word types of the FC16: bytes, bus words, addresses and lines (spec/00_scope, Conventions). -/

namespace Sys2Proof

/-- One byte of a line. -/
abbrev Byte := BitVec 8

/-- One word of the management bus (R156). -/
abbrev Word := BitVec 32

/-- A 48-bit byte address (00_scope, Lines and addresses). -/
abbrev Address := BitVec 48

/-- A line address without its six low bits, which are 0: lines are 64 bytes, aligned (00_scope). -/
abbrev Line := BitVec 42

/-- A window number, 0 to 15. -/
abbrev WindowId := Fin 16

/-- An initiator number, 0 to 15 (00_scope, Initiators). -/
abbrev Initiator := Fin 16

/-- A value of the time base, or a period, gap or tolerance, in µs; an ordinary number (R1). -/
abbrev Time := Nat

end Sys2Proof
end

