-- ==== Sys2Proof/Syntax.lean ====
section
/-! DEFINITION. The commands of the FC16: one constructor for each row of spec/opcode_table.json, and the data they carry. -/

namespace Sys2Proof

/-- What a host-side request asks of memory, with what only that kind carries (R43). A WRITE carries a byte-enable flag
and a byte for each byte of the request; an ATOMIC carries an operation and its operand, which the part does not interpret. -/
inductive Kind where
  | read
  | write (lanes : List (Bool × Byte))
  | atomic (operation : Nat) (operand : List Byte)
  deriving DecidableEq, Repr

/-- A host-side request (R43). `size` is as carried: 0 to 64, and 1 to 64 for a well-formed request. -/
structure Request where
  initiator : Initiator
  kind : Kind
  address : Address
  size : Nat
  deriving DecidableEq, Repr

/-- Memory's answer to a downstream request: OKAY, carrying data for a read or an atomic, or ERROR (R112). -/
inductive MemAnswer where
  | okay (data : List Byte)
  | error
  deriving DecidableEq, Repr

/-- Memory's answer to a drain write (R112, R114, R115). -/
inductive DrainAnswer where
  | okay
  | error
  deriving DecidableEq, Repr

/-- One of the two external beat lines, and so one of the two trackers (R124). -/
inductive BeatLine where
  | a
  | b
  deriving DecidableEq, Repr

/-- A write on the management bus: the word, and its four byte lanes, lane i set when byte i is written (R156). -/
structure BusWrite where
  value : Word
  lanes : BitVec 4
  deriving DecidableEq, Repr

/-- The commands and happenings the part takes, each whole (spec/95_what_each_step_holds). A request is named by its
place in take order (R46, R108), a drain write by its line (log entry 8). OPEN, CLOSE and SELECT_SOURCE are writes of
the command register: their window, close mode and source are the argument register's (R162, R163). -/
inductive Instr where
  | hardwareReset
  | hostSideRequest (r : Request)
  | hostOriginCompletion (order : Nat) (answer : MemAnswer)
  | drainCompletion (line : Line) (answer : DrainAnswer)
  | holdTimeout (order : Nat)
  | beatEdge (t : BeatLine)
  | trackerMiss (t : BeatLine)
  | internalCandidate
  | openWindow
  | closeWindow
  | selectSource
  | beatNow
  | initCommand
  | initEnd
  | undefinedCommand (code : BitVec 8)
  | descriptorWrite (w : WindowId) (word : Fin 6) (d : BusWrite)
  | holdLimitWrite (d : BusWrite)
  | minimumGapWrite (d : BusWrite)
  | internalPeriodWrite (d : BusWrite)
  | failoverEnableWrite (d : BusWrite)
  | trackerConfigurationWrite (t : BeatLine) (d : BusWrite)
  | trackerEnableSet (t : BeatLine)
  | trackerEnableClear (t : BeatLine)
  | clearIgnoredWrite
  | clearRefusedBusy
  | pop
  | overflowCountClear
  | interruptEnableWrite (d : BusWrite)
  | registerWrite (offset : BitVec 12) (d : BusWrite)
  | unmatchedMemoryAnswer (answer : MemAnswer)
  deriving DecidableEq, Repr

end Sys2Proof
end

