-- ==== Sys2Proof/Config.lean ====
section
/-! DEFINITION. What the part fixes: the sizes and limits of its blocks, and the one free value of the model. -/

namespace Sys2Proof.Config

/-- The number of entries of the line pool (R21). -/
def poolSize : Nat := 512

/-- The most entries of the in-flight list (R45, R47). -/
def maxInflight : Nat := 24

/-- The most held requests (R45, R71). -/
def maxHeld : Nat := 8

/-- The most host-origin requests outstanding (R45, R108). -/
def maxHostOutstanding : Nat := 12

/-- The most drain writes outstanding (R108). -/
def maxDrainOutstanding : Nat := 4

/-- The most downstream requests outstanding in all (R108). -/
def maxOutstanding : Nat := 16

/-- The most notification records (R172). -/
def maxRecords : Nat := 32

/-- Where the saturating counters stop (R6, R11, R128, R170, R177). -/
def counterLimit : Nat := 65535

/-- The part code of the identification word (R158). -/
def partCode : BitVec 16 := 0x0F16

/-- The revision of the identification word (R158). -/
def revision : BitVec 8 := 1

/-- The shortest and longest period a tracker learns and the generator takes, in µs (R131, R143). -/
def minPeriod : Nat := 100
/-- See `minPeriod`. -/
def maxPeriod : Nat := 1000000

/-- FREE VALUE (log entry 12). The byte a read is given at position `i` of the request where memory's OKAY answer
carries no byte for it: an answer gives one byte for each byte of the request (R44), and the spec says nothing of a
shorter one. -/
opaque absentMemoryByte : Nat → Byte

end Sys2Proof.Config
end

