-- ==== Sys2Proof/Machine/State.lean ====
section
/-! DEFINITION. The state of the FC16, block by block, as plain data; its values after hardware reset; faults and refusals. -/

namespace Sys2Proof.Machine

/-- The part has no machine fault: no happening of the spec stops it (FAULTED is a window state, ERROR an answer).
The type has no constructor, so no meaning can fault. Safe. -/
inductive Fault where
  deriving DecidableEq, Repr

/-- Why a command would have no meaning. -/
inductive Refusal where
  /-- Raised by an arm of exec whose row has no meaning yet, with the row's mnemonic; no arm is left so. Safe. -/
  | notModelled (mnemonic : String)
  deriving DecidableEq, Repr

/-! ### Windows (01_windows) -/

/-- Readiness mode (R3, R6). -/
inductive Readiness where
  | any
  | count
  | mark
  deriving DecidableEq, Repr

/-- Late policy (R3, R96, R97). -/
inductive LatePolicy where
  | carry
  | discard
  deriving DecidableEq, Repr

/-- Exhaustion policy (R3, R61). -/
inductive ExhaustionPolicy where
  | hold
  | bypass
  | refuse
  deriving DecidableEq, Repr

/-- A window's descriptor, kept as written (R3, R159). -/
structure Descriptor where
  base : Line
  size : BitVec 13
  producers : BitVec 16
  interval : BitVec 3
  readiness : Readiness
  readyCount : BitVec 16
  late : LatePolicy
  exhaustion : ExhaustionPolicy
  quota : BitVec 10
  reserve : BitVec 10
  tally : Bool
  notifyCommit : Bool
  deriving DecidableEq, Repr

/-- Window state (R9). -/
inductive WindowState where
  | off
  | active
  | closing
  | faulted
  deriving DecidableEq, Repr

/-- Close mode (R9, R15). -/
inductive CloseMode where
  | commit
  | discard
  deriving DecidableEq, Repr

/-- A window record: descriptor (R3), runtime record (R9, R10) and event counters (R11). In-use is the view
`State.inUse`. -/
structure Window where
  desc : Descriptor
  state : WindowState
  closeMode : Option CloseMode
  countdown : Nat
  due : Bool
  ready : Bool
  writeCount : Nat
  torn : Bool
  lateNoted : Bool
  slipNoted : Bool
  commitCount : BitVec 32
  lastCommitBeat : BitVec 32
  lateEvents : Nat
  slips : Nat
  exhaustions : Nat
  holdTimeouts : Nat
  drainFaults : Nat
  deriving DecidableEq, Repr

/-- The descriptor after hardware reset (R4). -/
def Descriptor.reset : Descriptor where
  base := 0
  size := 0
  producers := 0
  interval := 0
  readiness := .any
  readyCount := 0
  late := .carry
  exhaustion := .hold
  quota := 0
  reserve := 0
  tally := false
  notifyCommit := false

/-- The window that holds descriptor `d` and the runtime values of R19. -/
def Window.cleared (d : Descriptor) : Window where
  desc := d
  state := .off
  closeMode := none
  countdown := 0
  due := false
  ready := false
  writeCount := 0
  torn := false
  lateNoted := false
  slipNoted := false
  commitCount := 0
  lastCommitBeat := 0
  lateEvents := 0
  slips := 0
  exhaustions := 0
  holdTimeouts := 0
  drainFaults := 0

/-! ### Staging store (02_the_staging_store) -/

/-- Drain status of a COMMITTED entry (R22). -/
inductive DrainStatus where
  | queued
  | issued
  deriving DecidableEq, Repr

/-- Generation of an owned entry; drain status and error count (set: one drain error met) are absent while PENDING (R22). -/
inductive Generation where
  | pending
  | committed (status : DrainStatus) (errorMet : Bool)
  deriving DecidableEq, Repr

/-- An owned pool entry (R22). `cells` gives, for each of the 64 positions, the staged byte if the valid flag is set. -/
structure Entry where
  window : WindowId
  line : Line
  gen : Generation
  cells : List (Option Byte)
  firstWrite : Nat
  deriving DecidableEq, Repr

/-! ### Host-side port (03_access_steering) -/

/-- An answer: OKAY, with data for a READ or an ATOMIC, or ERROR (R44). -/
inductive AnswerForm where
  | okay (data : List Byte)
  | error
  deriving DecidableEq, Repr

/-- Status of an in-flight entry; READY carries the answer (R47). -/
inductive Status where
  | held
  | downstream
  | ready (answer : AnswerForm)
  deriving DecidableEq, Repr

/-- An in-flight entry (R47). `order` is its place in take order (R46). `capture` gives, for a captured READ, the byte at
each covered position of the request, until memory's ERROR discards it (R37, R66). -/
structure InFlight where
  order : Nat
  request : Request
  takeTime : Time
  window : Option WindowId
  status : Status
  capture : Option (List (Option Byte))
  deriving DecidableEq, Repr

/-- An answer sent on the host-side bus (R44), with the place in take order and the initiator of its request. -/
structure Answer where
  order : Nat
  initiator : Initiator
  form : AnswerForm
  deriving DecidableEq, Repr

/-! ### Hold queue (04_the_hold_queue) -/

/-- Why a request is held (R70, R72). -/
inductive HoldReason where
  | order
  | frameReady
  | exhausted
  | lineDraining
  | closing
  deriving DecidableEq, Repr

/-- A held request (R70). -/
structure Held where
  order : Nat
  request : Request
  reason : HoldReason
  window : Option WindowId
  line : Line
  takeTime : Time
  deadline : Time
  exhaustionMet : Bool
  deriving DecidableEq, Repr

/-! ### Drain engine and memory-side port (06_draining) -/

/-- A COMMITTED entry named in the drain queue (R106), by its window and line (R23). -/
structure DrainRef where
  window : WindowId
  line : Line
  deriving DecidableEq, Repr

/-- What a host-origin request is made for (R53, R55, R65). -/
inductive Purpose where
  | passThrough
  | viewedRead
  | bypass
  deriving DecidableEq, Repr

/-- A host-origin downstream request: the in-flight entry it serves, by place in take order, its purpose and its fields (R108, R109). -/
structure HostDown where
  order : Nat
  purpose : Purpose
  request : Request
  deriving DecidableEq, Repr

/-- An entry of the outstanding table (R108). -/
inductive Outstanding where
  | host (d : HostDown)
  | drain (r : DrainRef)
  deriving DecidableEq, Repr

/-- A request on the memory-side bus: a host-origin request as its rule gives it, or a drain write of a line with origin
DRAIN, its 64 byte-enable flags and bytes (R107). -/
inductive BusRequest where
  | host (r : Request)
  | drain (line : Line) (lanes : List (Bool × Byte))
  deriving DecidableEq, Repr

/-! ### Trackers and selector (07_beat_tracking, 08_beat_selection) -/

/-- Tracker state (R128). -/
inductive TrackerState where
  | disabled
  | seeking
  | qualifying
  | locked
  | holdover
  deriving DecidableEq, Repr

/-- A tracker: configuration (R125) and state (R128). -/
structure Tracker where
  enable : Bool
  tolerance : BitVec 12
  qualCount : BitVec 4
  missLimit : BitVec 3
  state : TrackerState
  refPeriod : Option Nat
  expected : Option Time
  goodCount : Nat
  missedCount : Nat
  earlyCount : Nat
  lastEdge : Option Time
  deriving DecidableEq, Repr

/-- A tracker after hardware reset (R140). -/
def Tracker.reset : Tracker where
  enable := false
  tolerance := 50
  qualCount := 4
  missLimit := 3
  state := .disabled
  refPeriod := none
  expected := none
  goodCount := 0
  missedCount := 0
  earlyCount := 0
  lastEdge := none

/-- A beat source (R142). -/
inductive Source where
  | beatA
  | beatB
  | internal
  | soft
  deriving DecidableEq, Repr

/-- The beat selector and the internal generator (R143, R144, R146, R150, R155). -/
structure Selector where
  current : Source
  target : Option Source
  beatNumber : BitVec 32
  lastDelivered : Option Time
  gap : BitVec 16
  failoverEnable : Bool
  period : BitVec 20
  nextTime : Time
  deriving DecidableEq, Repr

/-- The selector after hardware reset, at time 0 (R155). -/
def Selector.reset : Selector where
  current := .internal
  target := none
  beatNumber := 0
  lastDelivered := none
  gap := 100
  failoverEnable := true
  period := 1000
  nextTime := 1000

/-! ### Management port (09_the_management_port) -/

/-- A command's result code; NONE is the absence of a result (R159, R162). -/
inductive ResultCode where
  | done
  | suppressed
  | refusedState
  | refusedConfig
  | refusedRoom
  deriving DecidableEq, Repr

/-- The commands of the slot (R159, R164). -/
inductive CommandName where
  | openW
  | closeW
  | selectSource
  | beatNow
  | init
  deriving DecidableEq, Repr

/-- The fields of the argument register (R159, R163). -/
structure Argument where
  window : WindowId
  mode : CloseMode
  source : Source
  deriving DecidableEq, Repr

/-- The management port's own state: the flags and the command slot (R160 to R163). -/
structure Port where
  ignoredWrite : Bool
  refusedBusy : Bool
  argument : Argument
  result : Option (ResultCode × CommandName)
  busy : Bool
  deriving DecidableEq, Repr

/-- The management port after hardware reset (R158). -/
def Port.reset : Port where
  ignoredWrite := false
  refusedBusy := false
  argument := { window := 0, mode := .commit, source := .beatA }
  result := none
  busy := false

/-! ### Notification unit (10_notifications) -/

/-- The fifteen notification kinds (R159, R170). -/
inductive NotifKind where
  | commit
  | lateCarry
  | lateDiscard
  | slip
  | exhausted
  | torn
  | holdTimeout
  | foreignWrite
  | badRequest
  | drainFault
  | windowOff
  | lockGained
  | lockLost
  | failover
  | sourceSwitched
  deriving DecidableEq, Repr

/-- The subject of a record (R170). -/
inductive Subject where
  | window (w : WindowId)
  | source (c : Source)
  | initiator (i : Initiator)
  deriving DecidableEq, Repr

/-- A notification record (R170). -/
structure NotifRecord where
  kind : NotifKind
  subject : Subject
  beat : BitVec 32
  line : Option Line
  initiator : Option Initiator
  count : Nat
  deriving DecidableEq, Repr

/-- The notification unit (R171, R172, R177, R178). Bit n of the mask enables the kind whose code is n. -/
structure Notifier where
  queue : List NotifRecord
  mask : BitVec 16
  overflow : Nat
  intEnable : Bool
  deriving DecidableEq, Repr

/-- The notification unit after hardware reset (R179). -/
def Notifier.reset : Notifier where
  queue := []
  mask := 0xFFFE
  overflow := 0
  intEnable := false

/-! ### The whole part -/

/-- The state of the part. `hostBus`, `answers` and `issued` are the model's own (log entries 5 and 6): the requests that
wait on the host-side bus outside the part, and what has left by the two buses since hardware reset, oldest first.
`pending` is the queue of commands. -/
structure State where
  timeBase : Time
  windows : Vector Window 16
  pool : List Entry
  inflight : List InFlight
  nextOrder : Nat
  holdQueue : List Held
  holdLimit : BitVec 16
  drainQueue : List DrainRef
  waitList : List HostDown
  outstanding : List Outstanding
  trackerA : Tracker
  trackerB : Tracker
  sel : Selector
  port : Port
  notif : Notifier
  hostBus : List Request
  answers : List Answer
  issued : List BusRequest
  pending : List Instr
  deriving DecidableEq, Repr

/-- The part right after hardware reset (R1, R19, R42, R68, R84, R122, R140, R155, R158, R179). -/
def State.reset : State where
  timeBase := 0
  windows := Vector.replicate 16 (Window.cleared Descriptor.reset)
  pool := []
  inflight := []
  nextOrder := 0
  holdQueue := []
  holdLimit := 2000
  drainQueue := []
  waitList := []
  outstanding := []
  trackerA := Tracker.reset
  trackerB := Tracker.reset
  sel := Selector.reset
  port := Port.reset
  notif := Notifier.reset
  hostBus := []
  answers := []
  issued := []
  pending := []

end Sys2Proof.Machine
end

