-- ==== Sys2Proof/Machine/Operands.lean ====
section
/-! DEFINITION. Requests, lines and windows as operands: which line and window a request meets, which bytes it enables,
which positions are tally bytes. -/

namespace Sys2Proof

/-! ### Requests (R43, R51) -/

/-- The line of a request: the line that contains its address (R43). -/
def Request.line (r : Request) : Line := r.address.extractLsb' 6 42

/-- The position of the request's first byte in its line. -/
def Request.offset (r : Request) : Nat := r.address.toNat % 64

/-- Size 0, or a last byte in another line than the address (R51). -/
def Request.malformed (r : Request) : Bool :=
  decide (r.size = 0) || decide (64 < r.offset + r.size)

/-- Byte `i` of a WRITE, if it is one of the request's bytes and its byte-enable flag is set (R43). A flag that the
sender left out is clear (log entry 20). -/
def Request.lane (r : Request) (i : Nat) : Option Byte :=
  if i < r.size then
    match r.kind with
    | .write lanes =>
      match lanes[i]? with
      | some (true, b) => some b
      | _ => none
    | _ => none
  else none

/-- The enabled byte of a WRITE at position `p` of its line, if it enables that position (R32). -/
def Request.byteAt (r : Request) (p : Nat) : Option Byte :=
  if r.offset ≤ p then r.lane (p - r.offset) else none

/-! ### Beat lines (R124) -/

/-- The source of an external line's candidates (R136). -/
def BeatLine.source : BeatLine → Machine.Source
  | .a => .beatA
  | .b => .beatB

end Sys2Proof

namespace Sys2Proof.Machine

/-- The window numbers in ascending order (R86). -/
def windowIds : List WindowId := List.finRange 16

/-- The window record numbered `w`. -/
def State.window (s : State) (w : WindowId) : Window := s.windows[w]

/-- `s` with window `w` replaced by `f` of it. -/
def State.updWindow (s : State) (w : WindowId) (f : Window → Window) : State :=
  { s with windows := s.windows.set w (f s.windows[w]) }

/-! ### Windows (R5, R7) -/

/-- The line lies in the window's range: base up to, but not including, base + size lines (R5). -/
def Window.covers (v : Window) (l : Line) : Bool :=
  decide (v.desc.base.toNat ≤ l.toNat) && decide (l.toNat < v.desc.base.toNat + v.desc.size.toNat)

/-- The window a line belongs to: the non-OFF window whose range holds it (R5). OPEN lets at most one (R13). -/
def State.windowOf (s : State) (l : Line) : Option WindowId :=
  windowIds.find? fun w => (s.window w).state != .off && (s.window w).covers l

/-- The initiator is in the window's producer set (R5). -/
def Window.isProducer (v : Window) (i : Initiator) : Bool := v.desc.producers.getLsbD i.val

/-- Position `p` of line `l` is one of the window's tally bytes: the tally flag is set, the line is the last of the
window and the position is one of 56 to 63 (R7). -/
def Window.isTally (v : Window) (l : Line) (p : Nat) : Bool :=
  v.desc.tally && decide (l.toNat + 1 = v.desc.base.toNat + v.desc.size.toNat) && decide (56 ≤ p)

/-- The synthesized byte of the tally word at position `p` of the line, 56 to 63: the commit count, then the
last-commit beat number, least significant byte first (R7). -/
def Window.tallyByte (v : Window) (p : Nat) : Byte :=
  if p < 60 then v.commitCount.extractLsb' (8 * (p - 56)) 8
  else v.lastCommitBeat.extractLsb' (8 * (p - 60)) 8

/-- The write enables at least one tally byte (R8). -/
def Window.tallyWrite (v : Window) (r : Request) : Bool :=
  (List.range 64).any fun p => (r.byteAt p).isSome && v.isTally r.line p

/-- The byte a write stages at position `p`: its enabled byte, unless the position is a tally byte (R8, R33). -/
def Window.stagedByte (v : Window) (r : Request) (p : Nat) : Option Byte :=
  if v.isTally r.line p then none else r.byteAt p

/-- The write enables a byte that is not a tally byte (R8, R60). -/
def Window.stagesByte (v : Window) (r : Request) : Bool :=
  (List.range 64).any fun p => (v.stagedByte r p).isSome

/-- The request with its byte-enable flags at tally positions cleared: what a bypass write carries (R65). -/
def Window.withoutTally (v : Window) (r : Request) : Request :=
  match r.kind with
  | .write lanes =>
    { r with kind := .write (lanes.mapIdx fun i x => (x.1 && !(v.isTally r.line (r.offset + i)), x.2)) }
  | _ => r

/-! ### Sources and trackers (R128, R142) -/

/-- The external line of a source, if it has one (R142). -/
def Source.line? : Source → Option BeatLine
  | .beatA => some .a
  | .beatB => some .b
  | .internal => none
  | .soft => none

/-- The tracker of a line. -/
def State.tracker (s : State) : BeatLine → Tracker
  | .a => s.trackerA
  | .b => s.trackerB

/-- `s` with the tracker of a line replaced. -/
def State.setTracker (s : State) (t : BeatLine) (v : Tracker) : State :=
  match t with
  | .a => { s with trackerA := v }
  | .b => { s with trackerB := v }

/-- The tracker holds lock: it is LOCKED or HOLDOVER (R128). -/
def Tracker.holdsLock (v : Tracker) : Bool := v.state == .locked || v.state == .holdover

end Sys2Proof.Machine
end

