-- ==== Sys2Proof/Machine/Flags.lean ====
section
/-! DEFINITION. Saturating counters, the status flags of the management port, and the recording of notifications. -/

namespace Sys2Proof.Machine

/-- A counter that saturates at 65535, raised by one (R2). -/
def satInc (n : Nat) : Nat := if n < Config.counterLimit then n + 1 else n

/-- Set the ignored-write flag (R160). -/
def State.ignoreWrite (s : State) : State := { s with port := { s.port with ignoredWrite := true } }

/-- Set the refused-busy flag (R161). -/
def State.refuseBusy (s : State) : State := { s with port := { s.port with refusedBusy := true } }

/-! ### Notifications (R170 to R173) -/

/-- The code of a kind, which is also its bit of the kind mask (R159). -/
def NotifKind.code : NotifKind → Nat
  | .commit => 1
  | .lateCarry => 2
  | .lateDiscard => 3
  | .slip => 4
  | .exhausted => 5
  | .torn => 6
  | .holdTimeout => 7
  | .foreignWrite => 8
  | .badRequest => 9
  | .drainFault => 10
  | .windowOff => 11
  | .lockGained => 12
  | .lockLost => 13
  | .failover => 14
  | .sourceSwitched => 15

/-- The record has this kind and subject (R172). -/
def NotifRecord.isFor (x : NotifRecord) (k : NotifKind) (u : Subject) : Bool := x.kind == k && x.subject == u

/-- Raise the occurrence count of the first record of this kind and subject; nothing else of it changes (R173). -/
def coalesce (k : NotifKind) (u : Subject) : List NotifRecord → List NotifRecord
  | [] => []
  | x :: xs => if x.isFor k u then { x with count := satInc x.count } :: xs else x :: coalesce k u xs

/-- Offer an event for recording (R171, R173): masked off, coalesced into a record other than the head, made a new record
at the tail, or dropped and counted in the overflow count. -/
def Notifier.record (n : Notifier) (x : NotifRecord) : Notifier :=
  if !n.mask.getLsbD x.kind.code then n
  else if n.queue.tail.any (·.isFor x.kind x.subject) then
    { n with queue := n.queue.take 1 ++ coalesce x.kind x.subject n.queue.tail }
  else if n.queue.length < Config.maxRecords then { n with queue := n.queue ++ [x] }
  else { n with overflow := satInc n.overflow }

/-- Offer an event with the selector's beat number as it stands (R170). -/
def State.notify (s : State) (k : NotifKind) (u : Subject) (line : Option Line) (i : Option Initiator) : State :=
  { s with notif := s.notif.record ⟨k, u, s.sel.beatNumber, line, i, 1⟩ }

/-- The INT output: asserted while the queue holds a record and the interrupt enable is set (R178). -/
def State.intLine (s : State) : Bool := !s.notif.queue.isEmpty && s.notif.intEnable

end Sys2Proof.Machine
end

