-- ==== Sys2Proof/Machine/Store.lean ====
section
/-! DEFINITION. The staging store (02_the_staging_store): the pool, its counts, allocation, merging, views and frees. -/

namespace Sys2Proof.Machine

/-! ### The pool and its counts (R21 to R27) -/

/-- The entry is PENDING. -/
def Entry.isPending (e : Entry) : Bool := e.gen == .pending

/-- The entry is COMMITTED and QUEUED. -/
def Entry.isQueued (e : Entry) : Bool :=
  match e.gen with
  | .committed .queued _ => true
  | _ => false

/-- The entry is COMMITTED and its error count is 1 (R22). -/
def Entry.errorMet (e : Entry) : Bool :=
  match e.gen with
  | .pending => false
  | .committed _ m => m

/-- The number of FREE entries (R21). -/
def State.freeCount (s : State) : Nat := Config.poolSize - s.pool.length

/-- The number of entries the window owns (R27). -/
def State.inUse (s : State) (w : WindowId) : Nat := s.pool.countP fun e => e.window == w

/-- The window's pending list, in first-write order (R24): allocation appends, so the pool keeps that order. -/
def State.pendingList (s : State) (w : WindowId) : List Entry := s.pool.filter fun e => e.window == w && e.isPending

/-- The window's committed set (R25). -/
def State.committedSet (s : State) (w : WindowId) : List Entry := s.pool.filter fun e => e.window == w && !e.isPending

/-- The entry is the window's PENDING entry for the line. -/
def Entry.isPendingOf (e : Entry) (w : WindowId) (l : Line) : Bool := e.window == w && e.line == l && e.isPending

/-- The entry is the window's COMMITTED entry for the line. -/
def Entry.isCommittedOf (e : Entry) (w : WindowId) (l : Line) : Bool := e.window == w && e.line == l && !e.isPending

/-- The window's PENDING entry for the line, if there is one (R23). -/
def State.pendingEntry (s : State) (w : WindowId) (l : Line) : Option Entry := s.pool.find? (·.isPendingOf w l)

/-- The window's COMMITTED entry for the line, if there is one (R23). -/
def State.committedEntry (s : State) (w : WindowId) (l : Line) : Option Entry := s.pool.find? (·.isCommittedOf w l)

/-- The outstanding reserve of a window: reserve less in-use where positive, and 0 for an OFF window (R27). -/
def State.outstandingReserve (s : State) (w : WindowId) : Nat :=
  if (s.window w).state == .off then 0 else (s.window w).desc.reserve.toNat - s.inUse w

/-- The total outstanding reserve (R27). -/
def State.totalReserve (s : State) : Nat := (windowIds.map s.outstandingReserve).sum

/-! ### Allocation and merging (R28 to R33) -/

/-- The allocation test of R28: in-use below quota, and either in-use below reserve or the free count minus one at least
the total outstanding reserve. -/
def State.allocOk (s : State) (w : WindowId) : Bool :=
  decide (s.inUse w < (s.window w).desc.quota.toNat) &&
    (decide (s.inUse w < (s.window w).desc.reserve.toNat) || decide (s.totalReserve + 1 ≤ s.freeCount))

/-- A successful allocation: a PENDING entry with no valid byte, at the tail of the window's pending list (R24, R30). -/
def State.allocate (s : State) (w : WindowId) (l : Line) : State :=
  { s with pool := s.pool ++
      [{ window := w, line := l, gen := .pending, cells := List.replicate 64 none,
         firstWrite := (s.pendingList w).length + 1 }] }

/-- The cells of an entry after a write of the window is merged: enabled non-tally bytes replace what was there (R32, R33). -/
def mergeCells (v : Window) (r : Request) (cells : List (Option Byte)) : List (Option Byte) :=
  (List.range 64).map fun p =>
    match v.stagedByte r p with
    | some b => some b
    | none => (cells[p]?).join

/-- Merge a producer write into the window's PENDING entry for its line (R32). -/
def State.merge (s : State) (w : WindowId) (r : Request) : State :=
  { s with pool := s.pool.map fun e =>
      if e.isPendingOf w r.line then { e with cells := mergeCells (s.window w) r e.cells } else e }

/-! ### Views (R34 to R37) -/

/-- The valid byte of an entry at a position (R22). -/
def Entry.cell (e : Entry) (p : Nat) : Option Byte := (e.cells[p]?).join

/-- The staged byte the window's COMMITTED entry holds at a position of a line. -/
def State.committedByte (s : State) (w : WindowId) (l : Line) (p : Nat) : Option Byte :=
  (s.committedEntry w l).bind (·.cell p)

/-- The staged byte the window's PENDING entry holds at a position of a line. -/
def State.pendingByte (s : State) (w : WindowId) (l : Line) (p : Nat) : Option Byte :=
  (s.pendingEntry w l).bind (·.cell p)

/-- The byte of the reader's view at position `p` of line `l` of window `w` that does not come from memory: the tally
value, then for a producer the pending byte, then the committed byte; none where memory is the source (R34). -/
def State.viewByte (s : State) (w : WindowId) (i : Initiator) (l : Line) (p : Nat) : Option Byte :=
  if (s.window w).isTally l p then some ((s.window w).tallyByte p)
  else if (s.window w).isProducer i then
    match s.pendingByte w l p with
    | some b => some b
    | none => s.committedByte w l p
  else s.committedByte w l p

/-- What a READ captures: for each byte of the request, the byte of its view that is not memory's (R35). -/
def State.capture (s : State) (w : WindowId) (r : Request) : List (Option Byte) :=
  (List.range r.size).map fun i => s.viewByte w r.initiator r.line (r.offset + i)

/-- The bytes of a viewed read answered OKAY: captured bytes where covered, memory's bytes elsewhere (R37). The byte that
memory left out is a free value (log entry 12). -/
def combine (cap : List (Option Byte)) (data : List Byte) : List Byte :=
  cap.mapIdx fun i c =>
    match c with
    | some b => b
    | none => data.getD i (Config.absentMemoryByte i)

/-! ### Frees (R39) -/

/-- Free every entry that `p` holds of: it leaves the pool, and the drain queue if it was QUEUED there (R39). -/
def State.freeEntries (s : State) (p : Entry → Bool) : State :=
  { s with
    pool := s.pool.filter fun e => !p e
    drainQueue := s.drainQueue.filter fun d => !s.pool.any fun e => p e && e.isCommittedOf d.window d.line }

end Sys2Proof.Machine
end

