-- ==== Sys2Proof/Machine/Ops.lean ====
section
/-! DEFINITION. The in-flight list and the departure of answers (03_access_steering), the host-origin wait list, the
outstanding table and the two issue rules (06_draining). -/

namespace Sys2Proof.Machine

/-! ### Answers (R44, R48) -/

/-- The departures of one initiator from the in-flight list: its entries from its oldest on, as long as they are READY
(R48). Gives the answers sent and the list left. -/
def departures (i : Initiator) : List InFlight → List Answer × List InFlight
  | [] => ([], [])
  | e :: es =>
    if e.request.initiator = i then
      match e.status with
      | .ready a =>
        let d := departures i es
        (⟨e.order, i, a⟩ :: d.1, d.2)
      | _ => ([], e :: es)
    else
      let d := departures i es
      (d.1, e :: d.2)

/-- Let the answers of initiator `i` leave that can leave (R48). -/
def State.depart (s : State) (i : Initiator) : State :=
  { s with
    inflight := (departures i s.inflight).2
    answers := s.answers ++ (departures i s.inflight).1 }

/-- Give the in-flight entry at place `n` a status. -/
def State.setStatus (s : State) (n : Nat) (st : Status) : State :=
  { s with inflight := s.inflight.map fun e => if e.order = n then { e with status := st } else e }

/-- Record in the in-flight entry at place `n` what its READ captured (R35, R47). -/
def State.setCapture (s : State) (n : Nat) (cap : Option (List (Option Byte))) : State :=
  { s with inflight := s.inflight.map fun e => if e.order = n then { e with capture := cap } else e }

/-- The answer of the request at place `n` of initiator `i` becomes determined: its entry leaves, with the READY entries
behind it, or becomes READY (R48). -/
def State.determine (s : State) (n : Nat) (i : Initiator) (a : AnswerForm) : State :=
  (s.setStatus n (.ready a)).depart i

/-- The in-flight entry at place `n`. -/
def State.inflightAt (s : State) (n : Nat) : Option InFlight := s.inflight.find? (·.order == n)

/-! ### The outstanding table (R108) -/

/-- The entry is a host-origin request. -/
def Outstanding.isHost : Outstanding → Bool
  | .host _ => true
  | .drain _ => false

/-- The host-origin requests outstanding (R108). -/
def State.hostCount (s : State) : Nat := s.outstanding.countP (·.isHost)

/-- The drain writes outstanding (R108). -/
def State.drainCount (s : State) : Nat := s.outstanding.countP (!·.isHost)

/-- The host-origin entry that serves the request at place `n`. -/
def Outstanding.serves (n : Nat) : Outstanding → Bool
  | .host d => d.order == n
  | .drain _ => false

/-- The drain write of line `l`. -/
def Outstanding.drains (l : Line) : Outstanding → Bool
  | .host _ => false
  | .drain r => r.line == l

/-- A drain write of an entry of window `w`. -/
def Outstanding.isDrainOf (w : WindowId) : Outstanding → Bool
  | .host _ => false
  | .drain r => r.window == w

/-- The take conditions of the host-side port (R45). -/
def State.canTake (s : State) : Bool :=
  decide (s.inflight.length < Config.maxInflight) && decide (s.holdQueue.length < Config.maxHeld) &&
    decide (s.hostCount < Config.maxHostOutstanding) && !s.port.busy

/-! ### Host-origin requests (R109) -/

/-- Put a request handed over at its place in take order (R109). -/
def insertWaiting (d : HostDown) : List HostDown → List HostDown
  | [] => [d]
  | x :: xs => if d.order < x.order then d :: x :: xs else x :: insertWaiting d xs

/-- Hand a request over to the memory-side port (R109). -/
def State.handOver (s : State) (d : HostDown) : State := { s with waitList := insertWaiting d s.waitList }

/-- Issue waiting host-origin requests from the head of the wait list while fewer than 12 are in the table (R109). -/
def State.issueHost (s : State) : State :=
  let k := Config.maxHostOutstanding - s.hostCount
  { s with
    waitList := s.waitList.drop k
    outstanding := s.outstanding ++ (s.waitList.take k).map .host
    issued := s.issued ++ (s.waitList.take k).map fun d => .host d.request }

/-! ### Drain writes (R107, R110, R111) -/

/-- A line is busy while a host-origin request of it waits or is outstanding (R111). -/
def State.lineBusy (s : State) (l : Line) : Bool :=
  s.waitList.any (·.request.line == l) ||
    s.outstanding.any fun o =>
      match o with
      | .host d => d.request.line == l
      | .drain _ => false

/-- From head to tail, the entries to issue, at most `k`, passing over those that `waits` holds of; and the queue left (R110). -/
def pickDrains (waits : DrainRef → Bool) : Nat → List DrainRef → List DrainRef × List DrainRef
  | _, [] => ([], [])
  | 0, q => ([], q)
  | k + 1, r :: q =>
    if waits r then
      let x := pickDrains waits (k + 1) q
      (x.1, r :: x.2)
    else
      let x := pickDrains waits k q
      (r :: x.1, x.2)

/-- A COMMITTED entry with its drain status changed; its error count is kept (R22). -/
def Entry.withStatus (e : Entry) (st : DrainStatus) : Entry :=
  match e.gen with
  | .pending => e
  | .committed _ m => { e with gen := .committed st m }

/-- The drain write of an entry: the whole line, its valid flags as byte-enable flags; a position with no valid flag
holds 0 (R22, R107). -/
def drainRequest (e : Entry) : BusRequest := .drain e.line (e.cells.map fun c => (c.isSome, c.getD 0))

/-- The free drain slots: fewer than 4 drain writes and fewer than 16 requests in all (R108, R110). -/
def State.drainRoom (s : State) : Nat :=
  min (Config.maxDrainOutstanding - s.drainCount) (Config.maxOutstanding - s.outstanding.length)

/-- Issue the entries picked, `x.1`, and leave the drain queue `x.2` (R107, R110). -/
def State.issuePicked (s : State) (x : List DrainRef × List DrainRef) : State :=
  { s with
    drainQueue := x.2
    pool := s.pool.map fun e =>
      if x.1.any fun r => e.isCommittedOf r.window r.line then e.withStatus .issued else e
    outstanding := s.outstanding ++ x.1.map .drain
    issued := s.issued ++ (x.1.filterMap fun r => s.committedEntry r.window r.line).map drainRequest }

/-- The entries the issue rule issues now and the drain queue it leaves: an entry whose line is busy waits (R110). -/
def State.drainPick (s : State) : List DrainRef × List DrainRef :=
  pickDrains (fun r => s.lineBusy r.line) s.drainRoom s.drainQueue

/-- The drain engine's issue rule (R110); not applied while INIT is in progress (R121). -/
def State.drainIssue (s : State) : State := if s.port.busy then s else s.issuePicked s.drainPick

/-- The issue rule with the entries of window `w` passed over like those of busy lines (R120, second row). -/
def State.drainIssueBut (s : State) (w : WindowId) : State :=
  if s.port.busy then s
  else s.issuePicked (pickDrains (fun r => s.lineBusy r.line || r.window == w) s.drainRoom s.drainQueue)

end Sys2Proof.Machine
end

