-- ==== Sys2Proof/Machine/Steering.lean ====
section
/-! DEFINITION. Access steering (03_access_steering, R49 to R65): the classification of a request at its take or at its
release from the hold queue. -/

namespace Sys2Proof.Machine

/-- What a classification decides for the request: a hold, an answer, or a request to memory; the last two with what a
READ captured (R35, R47). -/
inductive Verdict where
  | hold (reason : HoldReason) (window : Option WindowId)
  | answer (a : AnswerForm) (capture : Option (List (Option Byte)))
  | send (purpose : Purpose) (r : Request) (capture : Option (List (Option Byte)))
  deriving DecidableEq, Repr

/-- A classification: the state it leaves, its verdict, whether the request has met exhaustion (R61, R70), and the window
whose EXHAUSTED requests it triggers, if any (R74). -/
structure Steered where
  state : State
  verdict : Verdict
  met : Bool
  woke : Option WindowId
  deriving DecidableEq, Repr

/-- A staged write after its merge: it is counted, may set the ready flag, and is answered OKAY (R58 steps 3 to 5). -/
def stagedDone (s : State) (w : WindowId) (mark allocated met : Bool) : Steered :=
  let v := s.window w
  let n := satInc v.writeCount
  let sets :=
    match v.desc.readiness with
    | .any => false
    | .count => decide (n = v.desc.readyCount.toNat)
    | .mark => mark
  { state := s.updWindow w fun v => { v with writeCount := n, ready := v.ready || sets }
    verdict := .answer (.okay []) none
    met := met
    woke := if allocated || sets then some w else none }

/-- A write that goes to memory under BYPASS: the torn flag is set, TORN recorded if it was clear, and a mark marks the
frame (R65, R8). -/
def bypassWrite (s : State) (w : WindowId) (r : Request) (mark : Bool) : Steered :=
  let s' := if (s.window w).torn then s else s.notify .torn (.window w) none (some r.initiator)
  { state := s'.updWindow w fun v => { v with torn := true, ready := v.ready || mark }
    verdict := .send .bypass ((s.window w).withoutTally r) none
    met := true
    woke := if mark then some w else none }

/-- Exhaustion: counted and recorded the first time, then the window's policy (R61 to R64). -/
def exhaust (s : State) (w : WindowId) (r : Request) (mark met : Bool) : Steered :=
  let s' :=
    if met then s
    else (s.updWindow w fun v => { v with exhaustions := satInc v.exhaustions }).notify .exhausted (.window w)
      (some r.line) (some r.initiator)
  match (s.window w).desc.exhaustion with
  | .hold => ⟨s', .hold .exhausted (some w), true, none⟩
  | .refuse => ⟨s', .answer .error none, true, none⟩
  | .bypass =>
    if (s.committedEntry w r.line).isSome then ⟨s', .hold .lineDraining (some w), true, none⟩
    else bypassWrite s' w r mark

/-- Stage a producer write into an ACTIVE window whose frame is not ready (R58). -/
def stageWrite (s : State) (w : WindowId) (r : Request) (mark met : Bool) : Steered :=
  if (s.pendingEntry w r.line).isSome then stagedDone (s.merge w r) w mark false met
  else if s.allocOk w then stagedDone ((s.allocate w r.line).merge w r) w mark true met
  else exhaust s w r mark met

/-- A producer's tally write to an ACTIVE window (R8, R57, R60). -/
def tallyWrite (s : State) (w : WindowId) (r : Request) (met : Bool) : Steered :=
  let v := s.window w
  match v.desc.readiness with
  | .mark =>
    if v.ready then ⟨s, .hold .frameReady (some w), met, none⟩
    else if v.stagesByte r then stageWrite s w r true met
    else ⟨s.updWindow w fun v => { v with ready := true }, .answer (.okay []) none, met, some w⟩
  | .any | .count =>
    ⟨s.notify .badRequest (.initiator r.initiator) none (some r.initiator), .answer .error none, met, none⟩

/-- A WRITE in a window (R50, R56, R57). -/
def steerWrite (s : State) (w : WindowId) (r : Request) (met : Bool) : Steered :=
  let v := s.window w
  if !v.isProducer r.initiator then
    ⟨s.notify .foreignWrite (.window w) none (some r.initiator), .answer .error none, met, none⟩
  else
    match v.state with
    | .off => ⟨s, .send .passThrough r none, met, none⟩
    | .closing => ⟨s, .hold .closing (some w), met, none⟩
    | .faulted => ⟨s, .answer .error none, met, none⟩
    | .active =>
      if v.tallyWrite r then tallyWrite s w r met
      else if v.ready then ⟨s, .hold .frameReady (some w), met, none⟩
      else stageWrite s w r false met

/-- A READ in a window: captured, and answered at once if the capture covers it, else sent to memory (R55). -/
def steerRead (s : State) (w : WindowId) (r : Request) (met : Bool) : Steered :=
  if (s.capture w r).all Option.isSome then ⟨s, .answer (.okay (combine (s.capture w r) [])) (some (s.capture w r)), met, none⟩
  else ⟨s, .send .viewedRead r (some (s.capture w r)), met, none⟩

/-- A request in window `w` (R49 step 4, R50, R54). -/
def steerInWindow (s : State) (w : WindowId) (r : Request) (met : Bool) : Steered :=
  match r.kind with
  | .atomic _ _ =>
    ⟨s.notify .badRequest (.initiator r.initiator) none (some r.initiator), .answer .error none, met, none⟩
  | .read => steerRead s w r met
  | .write _ => steerWrite s w r met

/-- An older request of the same initiator is HELD (R49 step 2, R72). -/
def State.olderHeld (s : State) (i : Initiator) (n : Nat) : Bool :=
  s.holdQueue.any fun h => h.request.initiator == i && decide (h.order < n)

/-- Steps 2 to 4 of R49 for the request at place `n`, which belonged to window `takeWin` at its take. -/
def classify (s : State) (n : Nat) (r : Request) (takeWin : Option WindowId) (met : Bool) : Steered :=
  if s.olderHeld r.initiator n then ⟨s, .hold .order takeWin, met, none⟩
  else
    match s.windowOf r.line with
    | none => ⟨s, .send .passThrough r none, met, none⟩
    | some w => steerInWindow s w r met

end Sys2Proof.Machine
end

