-- ==== Sys2Proof/Machine/HoldQueue.lean ====
section
/-! DEFINITION. The hold queue (04_the_hold_queue): the reason test, re-examination passes and the close of an event. -/

namespace Sys2Proof.Machine

/-- The places in take order of the held requests that `p` holds of, from head to tail. -/
def State.heldWhere (s : State) (p : Held → Bool) : List Nat := (s.holdQueue.filter p).map (·.order)

/-- The held requests of window `w` with one of the reasons (R74). -/
def State.heldOf (s : State) (w : WindowId) (reasons : List HoldReason) : List Nat :=
  s.heldWhere fun h => h.window == some w && reasons.contains h.reason

/-- The EXHAUSTED requests whose window's allocation test would pass now (R40, R74). -/
def State.heldWithRoom (s : State) : List Nat :=
  s.heldWhere fun h =>
    h.reason == .exhausted &&
      match h.window with
      | some w => s.allocOk w
      | none => false

/-- The LINE_DRAINING requests whose window and line are those of a freed COMMITTED entry (R40, R74). -/
def State.heldOnLine (s : State) (w : WindowId) (l : Line) : List Nat :=
  s.heldWhere fun h => h.reason == .lineDraining && h.window == some w && h.line == l

/-- The reason of a held request is still in force (R72). -/
def State.inForce (s : State) (h : Held) : Bool :=
  match h.reason with
  | .order => s.olderHeld h.request.initiator h.order
  | .frameReady =>
    match h.window with
    | some w => (s.window w).state == .active && (s.window w).ready
    | none => false
  | .exhausted =>
    match h.window with
    | some w =>
      (s.window w).state == .active && !(s.window w).ready && !(s.pendingEntry w h.line).isSome && !s.allocOk w
    | none => false
  | .lineDraining =>
    match h.window with
    | some w => (s.committedEntry w h.line).isSome
    | none => false
  | .closing =>
    match h.window with
    | some w => (s.window w).state == .closing
    | none => false

/-- Take the held request at place `n` out of the queue (R71, R76). -/
def State.unhold (s : State) (n : Nat) : State :=
  { s with holdQueue := s.holdQueue.filter fun h => h.order != n }

/-- The in-flight entry at place `n` becomes DOWNSTREAM with what it captured, and its request is handed over (R47, R76). -/
def State.sendDown (s : State) (n : Nat) (p : Purpose) (r : Request) (cap : Option (List (Option Byte))) : State :=
  ((s.setCapture n cap).setStatus n .downstream).handOver ⟨n, p, r⟩

/-- What a classification afresh does to the held request: held again in its place (R73), or released (R76). -/
def release (h : Held) (x : Steered) : State :=
  match x.verdict with
  | .hold reason w =>
    { x.state with holdQueue := x.state.holdQueue.map fun g =>
        if g.order = h.order then
          { g with reason := reason, window := w, line := g.request.line, exhaustionMet := x.met }
        else g }
  | .answer a cap => ((x.state.unhold h.order).setCapture h.order cap).determine h.order h.request.initiator a
  | .send p r cap => (x.state.unhold h.order).sendDown h.order p r cap

/-- The verdict takes the request out of the queue (R73, R76). -/
def Verdict.leaves : Verdict → Bool
  | .hold _ _ => false
  | .answer _ _ => true
  | .send _ _ _ => true

/-- The verdict hands a request over to the memory-side port. -/
def Verdict.sends : Verdict → Bool
  | .hold _ _ => false
  | .answer _ _ => false
  | .send _ _ _ => true

/-- A re-examination under way: the state, the requests triggered for this pass, those ahead triggered for a further
pass, and whether a request has been handed over (R75). -/
structure Pass where
  state : State
  trig : List Nat
  again : List Nat
  sent : Bool
  deriving DecidableEq, Repr

/-- The ORDER requests of the same initiator behind a request that left (R74). -/
def State.orderBehind (s : State) (i : Initiator) (n : Nat) : List Nat :=
  s.heldWhere fun h => h.reason == .order && h.request.initiator == i && decide (n < h.order)

/-- The EXHAUSTED requests a classification's own trigger names (R74, R75). -/
def Steered.wakes (x : Steered) (s : State) : List Nat :=
  match x.woke with
  | some w => s.heldOf w [.exhausted]
  | none => []

/-- The pass comes to the request at place `n`: if it is triggered and its reason is no longer in force, it is classified
afresh, and its own triggers are added, those behind for this pass and those ahead for a further one (R75). -/
def Pass.reach (p : Pass) (n : Nat) : Pass :=
  if p.trig.contains n then
    match p.state.holdQueue.find? (·.order == n) with
    | none => p
    | some h =>
      if p.state.inForce h then p
      else
        let x := classify p.state n h.request ((p.state.inflightAt n).bind (·.window)) h.exhaustionMet
        let s := release h x
        let woken := x.wakes s
        { state := s
          trig := p.trig ++ (if x.verdict.leaves then s.orderBehind h.request.initiator n else []) ++
            woken.filter (n < ·)
          again := p.again ++ woken.filter (· < n)
          sent := p.sent || x.verdict.sends }
  else p

/-- One pass over the hold queue, from head to tail (R75). -/
def Pass.run (p : Pass) : Pass := (p.state.holdQueue.map (·.order)).foldl Pass.reach p

/-- Passes of one event: a further one as long as classifications triggered requests ahead of them (R75). Each such
trigger comes from a request that leaves, so one pass more than there are held requests is enough. -/
def Pass.runAll : Nat → Pass → Pass
  | 0, p => p
  | k + 1, p =>
    let q := p.run
    if q.again.isEmpty then q else Pass.runAll k { q with trig := q.again, again := [] }

/-- The re-examination of an event that triggers `trig` (R74, R75). -/
def State.reexamine (s : State) (trig : List Nat) : Pass :=
  Pass.runAll (s.holdQueue.length + 1) ⟨s, trig, [], false⟩

/-- The close of an event: the re-examination, then the issue of what was handed over, then the drain engine's issue rule,
where the event calls for it or requests were handed over (R75, R88, R109, R110). `sent`: the event itself handed one over. -/
def State.closeEvent (s : State) (drain sent : Bool) (trig : List Nat) : State :=
  let p := s.reexamine trig
  let s' := if sent || p.sent then p.state.issueHost else p.state
  if drain || sent || p.sent then s'.drainIssue else s'

end Sys2Proof.Machine
end

