-- ==== Sys2Proof/Machine/Windows.lean ====
section
/-! DEFINITION. The life of a window (01_windows, section 1.4): opening, closing, becoming OFF, becoming FAULTED. -/

namespace Sys2Proof.Machine

/-! ### Opening (R13, R14) -/

/-- Check 2 of R13: size, k, quota and reserve in range, and N in COUNT mode; every value of k is in range. -/
def Descriptor.inRange (d : Descriptor) : Bool :=
  decide (1 ≤ d.size.toNat) && decide (d.size.toNat ≤ 4096) &&
    decide (1 ≤ d.quota.toNat) && decide (d.quota.toNat ≤ 512) &&
    decide (d.reserve.toNat ≤ d.quota.toNat) &&
    (d.readiness != .count || decide (1 ≤ d.readyCount.toNat))

/-- Check 5 of R13: base + size × 64 does not exceed 2^48. -/
def Descriptor.fits (d : Descriptor) : Bool := decide (d.base.toNat * 64 + d.size.toNat * 64 ≤ 2 ^ 48)

/-- The ranges of two windows share a line (R13, check 6). -/
def Window.overlaps (u v : Window) : Bool :=
  decide (u.desc.base.toNat < v.desc.base.toNat + v.desc.size.toNat) &&
    decide (v.desc.base.toNat < u.desc.base.toNat + u.desc.size.toNat)

/-- Check 6 of R13: the range shares no line with that of a non-OFF window. -/
def State.rangeFree (s : State) (w : WindowId) : Bool :=
  windowIds.all fun u => (s.window u).state == .off || !(s.window w).overlaps (s.window u)

/-- Check 7 of R13: room for the window's reserve. -/
def State.roomFor (s : State) (w : WindowId) : Bool :=
  decide (s.totalReserve + (s.window w).desc.reserve.toNat ≤ s.freeCount)

/-- The result of OPEN(w): the first check of R13 that fails, or DONE. -/
def State.openResult (s : State) (w : WindowId) : ResultCode :=
  let v := s.window w
  if v.state != .off then .refusedState
  else if !v.desc.inRange then .refusedConfig
  else if v.desc.producers == 0 then .refusedConfig
  else if v.desc.readiness == .mark && !v.desc.tally then .refusedConfig
  else if !v.desc.fits then .refusedConfig
  else if !s.rangeFree w then .refusedConfig
  else if !s.roomFor w then .refusedRoom
  else .done

/-- The number of delivered beats between due beats, 2^k (R3, R89). -/
def Window.reload (v : Window) : Nat := 2 ^ v.desc.interval.toNat

/-- The window after OPEN: ACTIVE, with the runtime values of R9's "After OPEN" column (R14). Its first due beat is then the 2^k-th
delivered beat after OPEN, as R89 and R105 say; R103 says, of an OPEN right behind a beat, 2^k beats after the next one, and the model
follows R89 and R105 (DESIGN CHOICE, log entry 33). -/
def Window.opened (v : Window) : Window :=
  { Window.cleared v.desc with state := .active, countdown := v.reload }

/-- OPEN(w) (R13, R14). -/
def State.openWindow (s : State) (w : WindowId) : ResultCode × State :=
  (s.openResult w, if s.openResult w = .done then s.updWindow w Window.opened else s)

/-! ### Becoming OFF (R17) -/

/-- The window becomes OFF by closing: counters and commit record are kept (R9, R17). -/
def Window.turnedOff (v : Window) : Window :=
  { v with
    state := .off
    closeMode := none
    countdown := 0
    due := false
    ready := false
    writeCount := 0
    torn := false
    lateNoted := false
    slipNoted := false }

/-- The test of R17: CLOSING, owning no entry and with no drain write outstanding. -/
def State.canTurnOff (s : State) (w : WindowId) : Bool :=
  (s.window w).state == .closing && s.inUse w == 0 && !s.outstanding.any (·.isDrainOf w)

/-- Make the test of R17 and, if it passes, make the window OFF and record WINDOW_OFF. -/
def State.testOff (s : State) (w : WindowId) : State :=
  if s.canTurnOff w then (s.updWindow w Window.turnedOff).notify .windowOff (.window w) none none else s

/-- The requests that `w`'s becoming OFF triggers, when `s'` came from `s` by the test of R17 (R17, R74). -/
def State.heldByOff (s s' : State) (w : WindowId) : List Nat :=
  if s.canTurnOff w then s'.heldOf w [.closing] else []

/-! ### Closing (R15, R16) -/

/-- What a CLOSE discard leaves of the frame's runtime record (R16). -/
def Window.discarded (v : Window) : Window :=
  { v with writeCount := 0, ready := false, torn := false, lateNoted := false, slipNoted := false }

/-- The entries that CLOSE(w, DISCARD) frees: the pending list, and the QUEUED committed entries of a FAULTED window (R16). -/
def State.discardsEntry (s : State) (w : WindowId) (e : Entry) : Bool :=
  e.window == w && (e.isPending || ((s.window w).state == .faulted && e.isQueued))

/-- The held requests that the frees of a CLOSE discard trigger, in the state `s'` the command has made; `freed` are the
entries it freed (R40). -/
def State.heldByFrees (s' : State) (freed : List Entry) : List Nat :=
  (if freed.isEmpty then [] else s'.heldWithRoom) ++
    (freed.filter (!·.isPending)).flatMap fun e => s'.heldOnLine e.window e.line

/-- A CLOSE that changes the window's state or close mode: the discard, if any; CLOSING with the mode; the test of R17; one
pass (R15, R16). -/
def State.closeTo (s : State) (w : WindowId) (m : CloseMode) : State :=
  let gone := fun e => m == .discard && s.discardsEntry w e
  let s₁ := if m = .discard then (s.freeEntries gone).updWindow w Window.discarded else s
  let s₂ := s₁.updWindow w fun v => { v with state := .closing, closeMode := some m }
  let s₃ := s₂.testOff w
  s₃.closeEvent false false
    (s₃.heldOf w [.frameReady, .exhausted] ++ s₃.heldByFrees (s.pool.filter gone) ++ s₂.heldByOff s₃ w)

/-- CLOSE(w, mode) (R15). -/
def State.closeWindow (s : State) (w : WindowId) (m : CloseMode) : ResultCode × State :=
  match (s.window w).state, m with
  | .off, _ => (.refusedState, s)
  | .active, _ => (.done, s.closeTo w m)
  | .closing, .commit => (.done, s)
  | .closing, .discard => (.done, if (s.window w).closeMode = some .discard then s else s.closeTo w .discard)
  | .faulted, .commit => (.refusedState, s)
  | .faulted, .discard => (.done, s.closeTo w .discard)

/-! ### Becoming FAULTED (R18, R117) -/

/-- The window after a drop: FAULTED, with close mode absent and the ready and due flags clear; a FAULTED window is
unchanged (R18, R117). A drop in an OFF window does not arise (R12). -/
def Window.faulted (v : Window) : Window :=
  match v.state with
  | .active | .closing => { v with state := .faulted, closeMode := none, ready := false, due := false }
  | .faulted | .off => v

/-- A drop makes the window FAULTED: it was ACTIVE or CLOSING (R18). -/
def Window.faultsNow (v : Window) : Bool := v.state == .active || v.state == .closing

end Sys2Proof.Machine
end

