-- ==== Sys2Proof/Machine/MemorySide.lean ====
section
/-! DEFINITION. The end of INIT (09_the_management_port, R167, R168) and the meanings of memory's answers: HOST_ORIGIN_COMPLETION, DRAIN_COMPLETION,
UNMATCHED_MEMORY_ANSWER (06_draining, section 6.3). -/

namespace Sys2Proof.Machine

/-! ### The end of INIT (R167, R168) -/

/-- The end of INIT: the pool, the windows, the notification queue and the command slot (R168). -/
def State.endInit (s : State) : State :=
  { s with
    pool := []
    drainQueue := []
    windows := Vector.ofFn fun w => Window.cleared (s.window w).desc
    notif := { s.notif with queue := [], overflow := 0 }
    port := { s.port with busy := false, result := some (.done, .init) } }

/-- The end test of R167. -/
def State.initDone (s : State) : Bool := s.port.busy && s.inflight.isEmpty && s.outstanding.isEmpty

/-- Make the end test and, if it passes, end INIT (R167). -/
def State.testInitEnd (s : State) : State := if s.initDone then s.endInit else s

/-! ### Host-origin completions (R66, R113) -/

/-- The answer of a request, from memory's answer to the host-origin request made for it (R66). -/
def answerFrom (d : HostDown) (cap : Option (List (Option Byte))) : MemAnswer → AnswerForm
  | .error => .error
  | .okay data =>
    match d.request.kind with
    | .write _ => .okay []
    | .atomic _ _ => .okay data
    | .read => .okay (combine (cap.getD (List.replicate d.request.size none)) data)

/-- What memory's answer does to the capture of the request at place `n`: ERROR discards the captured bytes (R37, R66). -/
def State.keepCapture (s : State) (n : Nat) : MemAnswer → State
  | .okay _ => s
  | .error => s.setCapture n none

/-- Memory's answer to the host-origin request that serves place `n` (R66, R112, R113). -/
def State.hostCompletion (s : State) (n : Nat) (a : MemAnswer) : State :=
  match s.outstanding.find? (·.serves n) with
  | some (.host d) =>
    let s₁ := { s with outstanding := s.outstanding.eraseP (·.serves n) }
    let s₂ := (s₁.keepCapture n a).determine n d.request.initiator (answerFrom d ((s.inflightAt n).bind (·.capture)) a)
    (s₂.issueHost.drainIssue).testInitEnd
  | _ => s

/-! ### Drain completions (R114 to R117) -/

/-- A drain write completed OKAY: the entry is freed, a CLOSING window that owns nothing more becomes OFF, the triggers
are given and the issue rule applied (R114, R17, R40). -/
def State.drained (s : State) (w : WindowId) (l : Line) : State :=
  let s₁ := s.freeEntries (·.isCommittedOf w l)
  let s₂ := s₁.testOff w
  s₂.closeEvent true false (s₂.heldWithRoom ++ s₂.heldOnLine w l ++ s₁.heldByOff s₂ w)

/-- The command writes code 2, CLOSE, to the command register (R156, R159, R162). -/
def givesClose : Instr → Bool
  | .closeWindow => true
  | .undefinedCommand code => code == 2
  | .registerWrite offset d => offset == 0x050 && d.lanes.getLsbD 0 && d.value.extractLsb' 0 8 == 2
  | _ => false

/-- A CLOSE(w, DISCARD) of the FAULTED window `w` comes together with the event in hand: it waits directly behind it, and is taken
at the same moment (R120; DESIGN CHOICE, log entry 31). -/
def State.closesNext (s : State) (w : WindowId) : Bool :=
  (s.window w).state == .faulted && s.port.argument.window == w && s.port.argument.mode == .discard &&
    s.pending.head?.any givesClose

/-- A drain write met its first error: the entry returns to the head of the drain queue, and the issue rule, applied in the
same event, issues it again at once unless its line is busy (R110, R115). Where a CLOSE(w, DISCARD) of its FAULTED window comes together
with the completion, the entry is QUEUED when the CLOSE is taken, which frees it with the other QUEUED entries of `w` (R120, second row):
the issue rule passes over the entries of `w` (DESIGN CHOICE, log entry 31). -/
def State.firstError (s : State) (w : WindowId) (l : Line) : State :=
  let t : State :=
    { s with
      pool := s.pool.map fun e =>
        if e.isCommittedOf w l then { e with gen := .committed .queued true } else e
      drainQueue := ⟨w, l⟩ :: s.drainQueue }
  if s.closesNext w then t.drainIssueBut w else t.drainIssue

/-- A drain write met its second error: the entry is dropped, counted, the window faulted and DRAIN_FAULT recorded (R116,
R117). -/
def State.dropEntry (s : State) (w : WindowId) (l : Line) : State :=
  let s₁ := s.freeEntries (·.isCommittedOf w l)
  let s₂ := s₁.updWindow w fun v => { v with drainFaults := satInc v.drainFaults }
  let s₃ := (s₂.updWindow w Window.faulted).notify .drainFault (.window w) (some l) none
  s₃.closeEvent true false
    (s₃.heldWithRoom ++ s₃.heldOnLine w l ++
      (if (s.window w).faultsNow then s₃.heldOf w [.closing, .frameReady, .exhausted] else []))

/-- Memory's answer to the drain write of line `l` (R112, R114 to R116, R121). While INIT is in progress it releases its
slot and has no other effect. -/
def State.drainCompletion (s : State) (l : Line) (a : DrainAnswer) : State :=
  match s.outstanding.find? (·.drains l) with
  | some (.drain r) =>
    let s₁ := { s with outstanding := s.outstanding.eraseP (·.drains l) }
    if s.port.busy then s₁.testInitEnd
    else
      match s₁.committedEntry r.window l, a with
      | none, _ => s₁.drainIssue
      | some _, .okay => s₁.drained r.window l
      | some e, .error =>
        if e.errorMet then s₁.dropEntry r.window l else s₁.firstError r.window l
  | _ => s

/-- HOST_ORIGIN_COMPLETION (R113): memory's answer to the host-origin request that serves place `n`. -/
def execHostOriginCompletion (n : Nat) (a : MemAnswer) (s : State) : Host.Outcome State Fault Refusal :=
  .next (s.hostCompletion n a)

/-- DRAIN_COMPLETION (R114): memory's answer to the drain write of line `l`. -/
def execDrainCompletion (l : Line) (a : DrainAnswer) (s : State) : Host.Outcome State Fault Refusal :=
  .next (s.drainCompletion l a)

/-- UNMATCHED_MEMORY_ANSWER (R112): an answer that matches no entry of the outstanding table is ignored. -/
def execUnmatchedMemoryAnswer (_a : MemAnswer) (s : State) : Host.Outcome State Fault Refusal :=
  .next s

end Sys2Proof.Machine
end

