-- ==== Sys2Proof/Machine/Scheduler.lean ====
section
/-! DEFINITION. The commit scheduler (05_commit_scheduling): what a delivered beat does to each window. -/

namespace Sys2Proof.Machine

/-! ### One window's frame (R90 to R97) -/

/-- The countdown reloaded and the due flag cleared: the end of a due period (R89). -/
def Window.endDue (v : Window) : Window := { v with countdown := v.reload, due := false }

/-- The window's runtime record after a commit at the beat numbered `b` (R92). -/
def Window.committedAt (b : BitVec 32) (v : Window) : Window :=
  { v.endDue with
    writeCount := 0
    ready := false
    torn := false
    lateNoted := false
    slipNoted := false
    commitCount := v.commitCount + 1
    lastCommitBeat := b }

/-- The entry becomes COMMITTED, QUEUED, with error count 0 (R26). -/
def Entry.commit (e : Entry) : Entry := { e with gen := .committed .queued false }

/-- The commit of window `w` at the beat numbered `b` (R26, R92, R93). -/
def State.commitFrame (s : State) (w : WindowId) (b : BitVec 32) : State :=
  let s₁ : State := { s with
    pool := s.pool.map fun (e : Entry) => if e.window == w && e.isPending then e.commit else e
    drainQueue := s.drainQueue ++ (s.pendingList w).map fun (e : Entry) => (⟨w, e.line⟩ : DrainRef) }
  let s₂ := s₁.updWindow w (Window.committedAt b)
  if (s.window w).desc.notifyCommit then s₂.notify .commit (.window w) none none else s₂

/-- A slip: the window stays due; it is counted and recorded once a due period (R95). -/
def State.slip (s : State) (w : WindowId) : State :=
  if (s.window w).slipNoted then s
  else (s.updWindow w fun v => { v with slips := satInc v.slips, slipNoted := true }).notify .slip (.window w) none none

/-- A late frame under DISCARD: the pending list is freed and the due period ends (R96). -/
def State.lateDiscard (s : State) (w : WindowId) : State :=
  ((s.freeEntries fun e => e.window == w && e.isPending).updWindow w fun v =>
      { v.endDue with writeCount := 0, ready := false, torn := false, lateNoted := false,
                      lateEvents := satInc v.lateEvents }).notify .lateDiscard (.window w) none none

/-- A late frame under CARRY: kept, counted and recorded once a due period (R97). -/
def State.lateCarry (s : State) (w : WindowId) : State :=
  if (s.window w).lateNoted then s
  else (s.updWindow w fun v => { v with lateEvents := satInc v.lateEvents, lateNoted := true }).notify .lateCarry
    (.window w) none none

/-- The frame is ready (R6, section 5.3): in ANY, the pending list is not empty; in COUNT and MARK, the ready flag is set. -/
def State.frameReady (s : State) (w : WindowId) : Bool :=
  match (s.window w).desc.readiness with
  | .any => !(s.pendingList w).isEmpty
  | .count | .mark => (s.window w).ready

/-- The frame is idle: pending list empty and ready flag clear (section 5.3). -/
def State.frameIdle (s : State) (w : WindowId) : Bool := (s.pendingList w).isEmpty && !(s.window w).ready

/-- What the beat does to a frame (R90). -/
inductive FrameOutcome where
  | idle
  | commit
  | slip
  | lateDiscard
  | lateCarry
  deriving DecidableEq, Repr

/-- The outcome of a due beat of an ACTIVE window (R90, R96, R97). -/
def State.judge (s : State) (w : WindowId) : FrameOutcome :=
  if s.frameIdle w then .idle
  else if s.frameReady w then (if (s.committedSet w).isEmpty then .commit else .slip)
  else
    match (s.window w).desc.late with
    | .discard => .lateDiscard
    | .carry => .lateCarry

/-! ### One beat (R86 to R89, R98, R99) -/

/-- A beat under way: the state, the windows that committed, whether a late discard freed entries, and whether a commit
added entries to the drain queue (R88). -/
structure BeatRun where
  state : State
  committed : List WindowId
  freed : Bool
  added : Bool
  deriving DecidableEq, Repr

/-- Give a window's frame its outcome at the beat numbered `b`. -/
def BeatRun.settle (x : BeatRun) (w : WindowId) (b : BitVec 32) : FrameOutcome → BeatRun
  | .idle => { x with state := x.state.updWindow w Window.endDue }
  | .commit =>
    { x with
      state := x.state.commitFrame w b
      committed := x.committed ++ [w]
      added := x.added || !(x.state.pendingList w).isEmpty }
  | .slip => { x with state := x.state.slip w }
  | .lateDiscard =>
    { x with
      state := x.state.lateDiscard w
      freed := x.freed || !(x.state.pendingList w).isEmpty }
  | .lateCarry => { x with state := x.state.lateCarry w }

/-- The countdown at a beat: a window that is not due counts down one, and is due from 0 (R89). -/
def Window.countDown (v : Window) : Window :=
  if v.due then v else { v with countdown := v.countdown - 1, due := v.countdown - 1 == 0 }

/-- What a delivered beat, numbered `b`, does to window `w` (R86, R89, R98, R99). -/
def BeatRun.evalWindow (b : BitVec 32) (x : BeatRun) (w : WindowId) : BeatRun :=
  let y := { x with state := x.state.updWindow w Window.countDown }
  match (x.state.window w).state, (x.state.window w).closeMode with
  | .active, _ => if (y.state.window w).due then y.settle w b (y.state.judge w) else y
  | .closing, some .commit =>
    if (x.state.pendingList w).isEmpty then x
    else if (x.state.committedSet w).isEmpty then x.settle w b .commit
    else if (y.state.window w).due then y.settle w b .slip
    else y
  | _, _ => x

/-- The held requests a delivered beat triggers (R74, R88). -/
def BeatRun.triggers (x : BeatRun) : List Nat :=
  x.committed.flatMap (fun w => x.state.heldOf w [.frameReady]) ++
    (if x.freed then x.state.heldWithRoom else [])

/-- A delivered beat at the commit scheduler: every window in ascending number, then the triggers once (R86 to R88). While
INIT is in progress it evaluates no window (R87). -/
def State.evalBeat (s : State) : State :=
  if s.port.busy then s
  else
    let x := windowIds.foldl (BeatRun.evalWindow s.sel.beatNumber) ⟨s, [], false, false⟩
    x.state.closeEvent x.added false x.triggers

end Sys2Proof.Machine
end

