-- ==== Sys2Proof/Machine/Beats.lean ====
section
/-! DEFINITION. The beat selector (08_beat_selection) and the trackers (07_beat_tracking), and the meanings BEAT_EDGE,
TRACKER_MISS, INTERNAL_CANDIDATE. -/

namespace Sys2Proof.Machine

/-! ### Candidates and delivery (R142 to R148) -/

/-- What becomes of a candidate (R142, R144, R145). -/
inductive Offered where
  | delivered
  | suppressed
  | passedOver
  deriving DecidableEq, Repr

/-- The gap test at time `t` (R144). -/
def Selector.gapPasses (x : Selector) (t : Time) : Bool :=
  match x.lastDelivered with
  | none => true
  | some d => decide (d + x.gap.toNat ≤ t)

/-- The selector after delivering a candidate of time `t` (R145). -/
def Selector.deliver (x : Selector) (t : Time) : Selector :=
  { x with beatNumber := x.beatNumber + 1, lastDelivered := some t }

/-- A candidate of source `c` at the present moment (R142 to R145, R148): delivered if it is of C and passes the gap test;
if it is of P and passes, it completes the switch; otherwise suppressed or passed over. -/
def State.offer (s : State) (c : Source) : Offered × State :=
  let t := s.timeBase
  if c = s.sel.current then
    if s.sel.gapPasses t then (.delivered, ({ s with sel := s.sel.deliver t } : State).evalBeat) else (.suppressed, s)
  else if s.sel.target = some c then
    if s.sel.gapPasses t then
      (.delivered,
        ((({ s with sel := { s.sel.deliver t with current := c, target := none } } : State).notify .sourceSwitched
          (.source c) none none)).evalBeat)
    else (.suppressed, s)
  else (.passedOver, s)

/-! ### Failover (R150, R151) -/

/-- The steps of a failover from the lost source `c` (R150). With no delivered beat yet, which no run reaches, the
generator keeps its next time (log entry 21). -/
def State.failover (s : State) (c : Source) : State :=
  ({ s with sel :=
      { s.sel with
        current := .internal
        target := if s.sel.target = some .internal then none else s.sel.target
        nextTime :=
          match s.sel.lastDelivered with
          | some t => t + s.sel.period.toNat
          | none => s.sel.nextTime } } : State).notify .failover (.source c) none none

/-! ### Trackers (R128 to R136) -/

/-- The tracker becomes LOCKED at an edge of time `t` with reference period `p` (R132). -/
def Tracker.lock (v : Tracker) (t : Time) (p : Nat) : Tracker :=
  { v with state := .locked, refPeriod := some p, expected := some (t + p), missedCount := 0, goodCount := 0, lastEdge := none }

/-- The tracker's edge of time `t` is the first of a run (R130 to R132). -/
def Tracker.firstEdge (v : Tracker) (t : Time) : Tracker :=
  { v with state := .qualifying, goodCount := 1, refPeriod := none, lastEdge := some t }

/-- A good edge: the good count rises to `g`; the lock test (R131, R132). -/
def Tracker.goodEdge (v : Tracker) (t : Time) (p g : Nat) : Tracker :=
  if v.qualCount.toNat ≤ g then v.lock t p
  else { v with refPeriod := some p, goodCount := g, lastEdge := some t }

/-- The interval lies from reference minus T to reference plus T (R132). -/
def Tracker.agrees (v : Tracker) (p interval : Nat) : Bool :=
  decide (p ≤ interval + v.tolerance.toNat) && decide (interval ≤ p + v.tolerance.toNat)

/-- An edge of time `t` at a QUALIFYING tracker (R131, R132). -/
def Tracker.qualify (v : Tracker) (t : Time) : Tracker :=
  match v.lastEdge with
  | none => v.firstEdge t
  | some l =>
    match v.refPeriod with
    | none =>
      if Config.minPeriod ≤ t - l ∧ t - l ≤ Config.maxPeriod then v.goodEdge t (t - l) 2 else v.firstEdge t
    | some p => if v.agrees p (t - l) then v.goodEdge t p (v.goodCount + 1) else v.firstEdge t

/-- The miss of the tracker is due at time `t`: it holds lock and the time base has reached expected time plus T (R134). -/
def Tracker.missDue (v : Tracker) (t : Time) : Bool :=
  v.holdsLock &&
    match v.expected with
    | some e => decide (e + v.tolerance.toNat ≤ t)
    | none => false

/-- The miss is overdue: the time base is past expected time plus T, so the miss is taken before any edge (R133, R135). -/
def Tracker.missOverdue (v : Tracker) (t : Time) : Bool :=
  v.holdsLock &&
    match v.expected with
    | some e => decide (e + v.tolerance.toNat < t)
    | none => false

/-- The miss ends the lock: the missed count reaches or exceeds M (R134). -/
def Tracker.losesLock (v : Tracker) : Bool := decide (v.missLimit.toNat ≤ v.missedCount + 1)

/-- The tracker after a loss of lock (R134). -/
def Tracker.lost (v : Tracker) : Tracker :=
  { v with state := .seeking, refPeriod := none, expected := none, missedCount := 0 }

/-- The tracker after a miss below the limit: HOLDOVER, the expected time one reference period later (R134). -/
def Tracker.coast (v : Tracker) : Tracker :=
  { v with state := .holdover, missedCount := v.missedCount + 1, expected := v.expected.map (· + v.refPeriod.getD 0) }

/-- A miss of the tracker (R134, R136, R150). -/
def State.miss (s : State) (t : BeatLine) : State :=
  let v := s.tracker t
  if v.losesLock then
    let s₁ := (s.setTracker t v.lost).notify .lockLost (.source t.source) none none
    if s₁.sel.current = t.source ∧ s₁.sel.failoverEnable then s₁.failover t.source else s₁
  else ((s.setTracker t v.coast).offer t.source).2

/-- Take the misses that are overdue, at most `k` of them (R133, R135). -/
def State.takeOverdue (t : BeatLine) : Nat → State → State
  | 0, s => s
  | k + 1, s => if (s.tracker t).missOverdue s.timeBase then State.takeOverdue t k (s.miss t) else s

/-- The tracker after an accepted edge of time `t` (R133). -/
def Tracker.accept (v : Tracker) (t : Time) : Tracker :=
  { v with state := .locked, missedCount := 0, expected := some (t + v.refPeriod.getD 0) }

/-- An edge at a tracker that holds lock: accepted or early (R133, R136). The miss of a later edge has been taken. -/
def State.judgeEdge (s : State) (t : BeatLine) : State :=
  let v := s.tracker t
  match v.expected with
  | none => s
  | some e =>
    if s.timeBase + v.tolerance.toNat < e then s.setTracker t { v with earlyCount := satInc v.earlyCount }
    else ((s.setTracker t (v.accept s.timeBase)).offer t.source).2

/-- An edge at a QUALIFYING tracker, with LOCK_GAINED where it locks (R131, R132, R137). -/
def State.qualifyEdge (s : State) (t : BeatLine) : State :=
  let v := (s.tracker t).qualify s.timeBase
  let s₁ := s.setTracker t v
  if v.state = .locked then s₁.notify .lockGained (.source t.source) none none else s₁

/-- A rising edge on a beat line at the present moment (R124, R130 to R133). -/
def State.edge (s : State) (t : BeatLine) : State :=
  match (s.tracker t).state with
  | .disabled => s
  | .seeking => s.setTracker t ((s.tracker t).firstEdge s.timeBase)
  | .qualifying => s.qualifyEdge t
  | .locked | .holdover => s.judgeEdge t

/-- A rising edge: any miss that is overdue is taken first, since an edge later than expected time plus T cannot be taken
before it (R133, R135, log entry 14). At most M misses, so at most 7, can be overdue before lock is lost. -/
def State.beatEdge (s : State) (t : BeatLine) : State := (State.takeOverdue t 8 s).edge t

/-- The generator's candidate: the next time is set to the candidate's time plus the period, and the candidate offered (R143). -/
def State.internalTick (s : State) : State :=
  (({ s with sel := { s.sel with nextTime := s.timeBase + s.sel.period.toNat } } : State).offer .internal).2

/-- The generator's next time is reached (R1, R143). -/
def State.internalDue (s : State) : Bool := decide (s.sel.nextTime ≤ s.timeBase)

/-! ### The meanings -/

/-- BEAT_EDGE (R124): a rising edge at the moment the time base shows. -/
def execBeatEdge (t : BeatLine) (s : State) : Host.Outcome State Fault Refusal := .next (s.beatEdge t)

/-- TRACKER_MISS (R134): the miss, if the time base has reached it; otherwise it has not happened (log entry 4). -/
def execTrackerMiss (t : BeatLine) (s : State) : Host.Outcome State Fault Refusal :=
  .next (if (s.tracker t).missDue s.timeBase then s.miss t else s)

/-- INTERNAL_CANDIDATE (R143): the candidate, if the time base has reached the next time; otherwise it has not happened
(log entry 4). -/
def execInternalCandidate (s : State) : Host.Outcome State Fault Refusal :=
  .next (if s.internalDue then s.internalTick else s)

end Sys2Proof.Machine
end

