-- ==== Sys2Proof/Machine/HostSide.lean ====
section
/-! DEFINITION. The host-side port's take (R45 to R49) and the hold timeout (R80): the meanings of HOST_SIDE_REQUEST, HOLD_TIMEOUT and
HARDWARE_RESET. -/

namespace Sys2Proof.Machine

/-! ### Taking a request (R45 to R49, R51) -/

/-- The window a request belongs to at its take, whatever the outcome: that of the line of its address, for a malformed
request too (R5, R47, R49, log entry 15). -/
def State.takeWindow (s : State) (r : Request) : Option WindowId := s.windowOf r.line

/-- The in-flight entry of a request taken now, with a status and what it captured (R46, R47). -/
def State.newEntry (s : State) (r : Request) (st : Status) (cap : Option (List (Option Byte))) : InFlight :=
  { order := s.nextOrder, request := r, takeTime := s.timeBase, window := s.takeWindow r, status := st, capture := cap }

/-- The held request of a request taken now (R70, R79). -/
def State.newHeld (s : State) (r : Request) (reason : HoldReason) (w : Option WindowId) (met : Bool) : Held :=
  { order := s.nextOrder, request := r, reason := reason, window := w, line := r.line, takeTime := s.timeBase,
    deadline := s.timeBase + s.holdLimit.toNat, exhaustionMet := met }

/-- Put a request into the in-flight list with the status its verdict gives (R47, R71); `s` is the state at the take, `x`
the classification. The new entry is the youngest of the list. -/
def State.enter (s : State) (r : Request) (x : Steered) : State :=
  let y := { x.state with nextOrder := s.nextOrder + 1 }
  match x.verdict with
  | .hold reason w =>
    { y with
      inflight := y.inflight ++ [s.newEntry r .held none]
      holdQueue := y.holdQueue ++ [s.newHeld r reason w x.met] }
  | .answer a cap => State.depart { y with inflight := y.inflight ++ [s.newEntry r (.ready a) cap] } r.initiator
  | .send p d cap => State.handOver { y with inflight := y.inflight ++ [s.newEntry r .downstream cap] } ⟨s.nextOrder, p, d⟩

/-- The classification of a request at its take: malformed first, then as `classify` (R49, R51). -/
def State.judgeNew (s : State) (r : Request) : Steered :=
  if r.malformed then
    ⟨s.notify .badRequest (.initiator r.initiator) none (some r.initiator), .answer .error none, false, none⟩
  else classify s s.nextOrder r (s.takeWindow r) false

/-- Take a request (R46 to R49): classify it, enter it, and close the event. -/
def State.takeRequest (s : State) (r : Request) : State :=
  let x := s.judgeNew r
  let s' := s.enter r x
  s'.closeEvent false x.verdict.sends (x.wakes s')

/-- The port takes the request the bus presents, the one that has waited longest, if there is one and the take conditions
hold (R45, R46, log entry 5). -/
def State.takePresented (s : State) : State :=
  if s.canTake then
    match s.hostBus with
    | r :: rest => ({ s with hostBus := rest } : State).takeRequest r
    | [] => s
  else s

/-! ### Timeouts (R80) -/

/-- The held request at place `n` is past its deadline (R80). -/
def State.timedOut (s : State) (n : Nat) : Option Held :=
  s.holdQueue.find? fun h => h.order == n && decide (h.deadline ≤ s.timeBase)

/-- Count a hold timeout against a window, if the held request names one (R11, R80). -/
def State.countTimeout (s : State) : Option WindowId → State
  | none => s
  | some w => s.updWindow w fun v => { v with holdTimeouts := satInc v.holdTimeouts }

/-- The timeout of a held request (R80). -/
def State.timeout (s : State) (h : Held) : State :=
  let s₁ := (s.unhold h.order).determine h.order h.request.initiator .error
  let s₂ := (s₁.countTimeout h.window).notify .holdTimeout (.initiator h.request.initiator) (some h.line)
    (some h.request.initiator)
  s₂.closeEvent false false (s₂.orderBehind h.request.initiator h.order)

/-! ### The meanings -/

/-- HOST_SIDE_REQUEST (R45, R46, R49): the request comes to the bus behind those that wait there, and the port takes what
the bus presents while the take conditions hold: this request, if none waits ahead of it (log entry 5). -/
def execHostSideRequest (r : Request) (s : State) : Host.Outcome State Fault Refusal :=
  .next (({ s with hostBus := s.hostBus ++ [r] } : State).takePresented)

/-- HOLD_TIMEOUT (R80): the timeout of the held request at place `n`, if it is held and its deadline is reached; otherwise
it has not happened (R81, log entry 4). -/
def execHoldTimeout (n : Nat) (s : State) : Host.Outcome State Fault Refusal :=
  .next (match s.timedOut n with
    | some h => s.timeout h
    | none => s)

/-- HARDWARE_RESET (R19, R42, R68, R84, R122, R140, R155, R158, R179): every block at its reset value; the queue of waiting
commands is the sender's and stays. -/
def execHardwareReset (s : State) : Host.Outcome State Fault Refusal :=
  .next { State.reset with pending := s.pending }

end Sys2Proof.Machine
end

