-- ==== Sys2Proof/Machine/Slot.lean ====
section
/-! DEFINITION. The command slot (R162 to R168): the meanings OPEN, CLOSE, SELECT_SOURCE, BEAT_NOW, INIT, INIT_END,
UNDEFINED_COMMAND. -/

namespace Sys2Proof.Machine

/-- SELECT_SOURCE(c) (R147). -/
def State.selectSource (s : State) (c : Source) : ResultCode × State :=
  if c = s.sel.current then (.done, { s with sel := { s.sel with target := none } })
  else
    match c.line? with
    | some t =>
      if (s.tracker t).state = .disabled then (.refusedState, s)
      else (.done, { s with sel := { s.sel with target := some c } })
    | none => (.done, { s with sel := { s.sel with target := some c } })

/-- BEAT_NOW (R149). -/
def State.beatNow (s : State) : ResultCode × State :=
  if s.sel.current = .soft ∨ s.sel.target = some .soft then
    match s.offer .soft with
    | (.delivered, s') => (.done, s')
    | (_, s') => (.suppressed, s')
  else (.refusedState, s)

/-- The hold queue answers every held request ERROR, oldest first, and is empty (R83). -/
def State.answerHeld (s : State) : State :=
  s.holdQueue.foldl (fun s h => s.determine h.order h.request.initiator .error) { s with holdQueue := [] }

/-- The taking of INIT (R165). The result register keeps its value until INIT ends. -/
def State.takeInit (s : State) : State :=
  ({ s with port := { s.port with busy := true } } : State).answerHeld.testInitEnd

/-- Write a completed command's result (R162). -/
def complete (c : CommandName) (x : ResultCode × State) : State :=
  { x.2 with port := { x.2.port with result := some (x.1, c) } }

/-- A defined command, taken with the argument register as it stands (R162 to R164). -/
def State.takeCommand (s : State) : CommandName → State
  | .openW => complete .openW (s.openWindow s.port.argument.window)
  | .closeW => complete .closeW (s.closeWindow s.port.argument.window s.port.argument.mode)
  | .selectSource => complete .selectSource (s.selectSource s.port.argument.source)
  | .beatNow => complete .beatNow s.beatNow
  | .init => s.takeInit

/-- A write of the command register with a defined code: not taken while the slot is busy (R162, R163). -/
def State.command (s : State) (c : CommandName) : State := if s.port.busy then s.refuseBusy else s.takeCommand c

/-- The command a code names (R159). -/
def commandOf (code : BitVec 8) : Option CommandName :=
  match code.toNat with
  | 1 => some .openW
  | 2 => some .closeW
  | 3 => some .selectSource
  | 4 => some .beatNow
  | 5 => some .init
  | _ => none

/-- A write of the command register (R162, R163). -/
def State.commandWrite (s : State) (code : BitVec 8) : State :=
  match commandOf code with
  | some c => s.command c
  | none => if s.port.busy then s.refuseBusy else s.ignoreWrite

/-- OPEN (R13): a write of the command register with code 1. -/
def execOpenWindow (s : State) : Host.Outcome State Fault Refusal := .next (s.command .openW)

/-- CLOSE (R15): a write of the command register with code 2. -/
def execCloseWindow (s : State) : Host.Outcome State Fault Refusal := .next (s.command .closeW)

/-- SELECT_SOURCE (R147): a write of the command register with code 3. -/
def execSelectSource (s : State) : Host.Outcome State Fault Refusal := .next (s.command .selectSource)

/-- BEAT_NOW (R149): a write of the command register with code 4. -/
def execBeatNow (s : State) : Host.Outcome State Fault Refusal := .next (s.command .beatNow)

/-- INIT (R165): a write of the command register with code 5. -/
def execInitCommand (s : State) : Host.Outcome State Fault Refusal := .next (s.command .init)

/-- INIT_END (R168): the end of INIT, where its test passes (R167); the happening at which the test passes carries it out
as part of itself, so this finds it done in every state a run reaches (log entry 16). -/
def execInitEnd (s : State) : Host.Outcome State Fault Refusal := .next s.testInitEnd

/-- UNDEFINED_COMMAND (R162): a write of the command register with a code the slot does not define. -/
def execUndefinedCommand (code : BitVec 8) (s : State) : Host.Outcome State Fault Refusal := .next (s.commandWrite code)

end Sys2Proof.Machine
end

