-- ==== Sys2Proof/Machine/Registers.lean ====
section
/-! DEFINITION. The register window (R156 to R159): where each register lies, what a read shows, and what a write of a whole word
does. -/

namespace Sys2Proof.Machine

/-- The registers of the management port (R158). Words of a descriptor, of a status record and of the notification head are
numbered from 0. -/
inductive Reg where
  | identification
  | flags
  | holdLimit
  | minimumGap
  | internalPeriod
  | failoverEnable
  | trackerConfig (t : BeatLine)
  | trackerEnable (t : BeatLine)
  | trackerStatus (t : BeatLine)
  | trackerPeriod (t : BeatLine)
  | selectorStatus
  | beatNumber
  | freeCount
  | command
  | argument
  | result
  | busy
  | head (i : Fin 5)
  | queueCount
  | pop
  | kindMask
  | overflowCount
  | interruptEnable
  | descriptor (w : WindowId) (i : Fin 6)
  | status (w : WindowId) (i : Fin 6)
  deriving DecidableEq, Repr

/-! ### Where the registers lie (R156, R158) -/

/-- The word `k` of a per-window block: window `k / 8`, word `k % 8`; words 6 and 7 are unused (R158). -/
def windowReg (f : WindowId → Fin 6 → Reg) (k : Nat) : Option Reg :=
  if h : k / 8 < 16 ∧ k % 8 < 6 then some (f ⟨k / 8, h.1⟩ ⟨k % 8, h.2⟩) else none

/-- The register at a word of the global area, by its offset (R158). -/
def globalReg : Nat → Option Reg
  | 0x000 => some .identification
  | 0x004 => some .flags
  | 0x008 => some .holdLimit
  | 0x00C => some .minimumGap
  | 0x010 => some .internalPeriod
  | 0x014 => some .failoverEnable
  | 0x020 => some (.trackerConfig .a)
  | 0x024 => some (.trackerEnable .a)
  | 0x028 => some (.trackerStatus .a)
  | 0x02C => some (.trackerPeriod .a)
  | 0x030 => some (.trackerConfig .b)
  | 0x034 => some (.trackerEnable .b)
  | 0x038 => some (.trackerStatus .b)
  | 0x03C => some (.trackerPeriod .b)
  | 0x040 => some .selectorStatus
  | 0x044 => some .beatNumber
  | 0x048 => some .freeCount
  | 0x050 => some .command
  | 0x054 => some .argument
  | 0x058 => some .result
  | 0x05C => some .busy
  | 0x080 => some (.head 0)
  | 0x084 => some (.head 1)
  | 0x088 => some (.head 2)
  | 0x08C => some (.head 3)
  | 0x090 => some (.head 4)
  | 0x094 => some .queueCount
  | 0x098 => some .pop
  | 0x09C => some .kindMask
  | 0x0A0 => some .overflowCount
  | 0x0A4 => some .interruptEnable
  | _ => none

/-- The register an offset selects, its two lowest bits ignored; none where the offset holds no register (R156, R158). -/
def regAt (offset : BitVec 12) : Option Reg :=
  let o := offset.toNat - offset.toNat % 4
  if o < 0x100 then globalReg o
  else if o < 0x300 then windowReg .descriptor ((o - 0x100) / 4)
  else if o < 0x500 then windowReg .status ((o - 0x300) / 4)
  else none

/-! ### Encodings (R159) -/

/-- Window state code. -/
def WindowState.code : WindowState → Nat
  | .off => 0
  | .active => 1
  | .closing => 2
  | .faulted => 3

/-- Close mode code in a status record. -/
def closeCode : Option CloseMode → Nat
  | none => 0
  | some .commit => 1
  | some .discard => 2

/-- Readiness mode code. -/
def Readiness.code : Readiness → Nat
  | .any => 0
  | .count => 1
  | .mark => 2

/-- Exhaustion policy code. -/
def ExhaustionPolicy.code : ExhaustionPolicy → Nat
  | .hold => 0
  | .bypass => 1
  | .refuse => 2

/-- Late policy bit. -/
def LatePolicy.code : LatePolicy → Nat
  | .carry => 0
  | .discard => 1

/-- Close mode bit of the argument register. -/
def CloseMode.code : CloseMode → Nat
  | .commit => 0
  | .discard => 1

/-- Tracker state code. -/
def TrackerState.code : TrackerState → Nat
  | .disabled => 0
  | .seeking => 1
  | .qualifying => 2
  | .locked => 3
  | .holdover => 4

/-- Source code. -/
def Source.code : Source → Nat
  | .beatA => 0
  | .beatB => 1
  | .internal => 2
  | .soft => 3

/-- Result code; 0 is NONE. -/
def ResultCode.code : ResultCode → Nat
  | .done => 1
  | .suppressed => 2
  | .refusedState => 3
  | .refusedConfig => 4
  | .refusedRoom => 5

/-- Command code. -/
def CommandName.code : CommandName → Nat
  | .openW => 1
  | .closeW => 2
  | .selectSource => 3
  | .beatNow => 4
  | .init => 5

/-- The number in the subject field of a record (R159, R170). -/
def Subject.code : Subject → Nat
  | .window w => w.val
  | .source c => c.code
  | .initiator i => i.val

/-- The number `n` as a field whose lowest bit is bit `lo`. -/
def field (n lo : Nat) : Word := BitVec.ofNat 32 n <<< lo

/-- One bit as a field. -/
def flag (b : Bool) (lo : Nat) : Word := field b.toNat lo

/-- The field of `len` bits from bit `lo` of a word. -/
def bitsOf (v : Word) (lo len : Nat) : Nat := (v.extractLsb' lo len).toNat

/-! ### Reads (R156 to R159) -/

/-- Word `i` of a window's descriptor. -/
def Descriptor.word (d : Descriptor) : Fin 6 → Word
  | 0 => field (d.base.toNat % 2 ^ 26) 6
  | 1 => field (d.base.toNat / 2 ^ 26) 0
  | 2 => field d.size.toNat 0 ||| field d.interval.toNat 16 ||| field d.readiness.code 20
  | 3 =>
    field d.readyCount.toNat 0 ||| field d.late.code 16 ||| field d.exhaustion.code 17 ||| flag d.tally 20 |||
      flag d.notifyCommit 21
  | 4 => field d.quota.toNat 0 ||| field d.reserve.toNat 16
  | 5 => field d.producers.toNat 0

/-- Word `i` of a window's status record. -/
def Window.statusWord (v : Window) (inUse : Nat) : Fin 6 → Word
  | 0 => field v.state.code 0 ||| field (closeCode v.closeMode) 4 ||| field inUse 16
  | 1 => v.commitCount
  | 2 => v.lastCommitBeat
  | 3 => field v.lateEvents 0 ||| field v.slips 16
  | 4 => field v.exhaustions 0 ||| field v.holdTimeouts 16
  | 5 => field v.drainFaults 0

/-- Word `i` of the notification head; 0 where the record has no such field (R159, R175). -/
def NotifRecord.word (x : NotifRecord) : Fin 5 → Word
  | 0 =>
    field x.kind.code 0 ||| field x.subject.code 8 ||| flag x.line.isSome 16 ||| flag x.initiator.isSome 17 ||| flag true 31
  | 1 => x.beat
  | 2 => field ((x.line.getD 0).toNat % 2 ^ 26) 6
  | 3 => field ((x.line.getD 0).toNat / 2 ^ 26) 0
  | 4 => field (x.initiator.getD 0).val 0 ||| field x.count 16

/-- What a read of a register shows (R157 to R159). The command field of a result of NONE reads 0 (DESIGN CHOICE, log entry 13), and
so does the selector status's P source code while P is absent (DESIGN CHOICE, log entry 32). -/
def State.readReg (s : State) : Reg → Word
  | .identification => field Config.partCode.toNat 16 ||| field Config.revision.toNat 0
  | .flags => flag s.port.ignoredWrite 0 ||| flag s.port.refusedBusy 1
  | .holdLimit => field s.holdLimit.toNat 0
  | .minimumGap => field s.sel.gap.toNat 0
  | .internalPeriod => field s.sel.period.toNat 0
  | .failoverEnable => flag s.sel.failoverEnable 0
  | .trackerConfig t =>
    field (s.tracker t).tolerance.toNat 0 ||| field (s.tracker t).qualCount.toNat 16 |||
      field (s.tracker t).missLimit.toNat 24
  | .trackerEnable t => flag (s.tracker t).enable 0
  | .trackerStatus t => field (s.tracker t).state.code 0 ||| field (s.tracker t).earlyCount 16
  | .trackerPeriod t => field ((s.tracker t).refPeriod.getD 0) 0
  | .selectorStatus =>
    field s.sel.current.code 0 |||
      match s.sel.target with
      | some c => field c.code 4 ||| flag true 7
      | none => 0
  | .beatNumber => s.sel.beatNumber
  | .freeCount => field s.freeCount 0
  | .command => 0
  | .argument =>
    field s.port.argument.window.val 0 ||| field s.port.argument.mode.code 8 ||| field s.port.argument.source.code 16
  | .result =>
    match s.port.result with
    | some (r, c) => field r.code 0 ||| field c.code 8
    | none => 0
  | .busy => flag s.port.busy 0
  | .head i =>
    match s.notif.queue.head? with
    | some x => x.word i
    | none => 0
  | .queueCount => field s.notif.queue.length 0
  | .pop => 0
  | .kindMask => s.notif.mask.setWidth 32
  | .overflowCount => field s.notif.overflow 0
  | .interruptEnable => flag s.notif.intEnable 0
  | .descriptor w i => (s.window w).desc.word i
  | .status w i => (s.window w).statusWord (s.inUse w) i

/-- What a read of an offset shows: 0 where it holds no register (R156). -/
def State.readOffset (s : State) (offset : BitVec 12) : Word :=
  match regAt offset with
  | some g => s.readReg g
  | none => 0

/-- The bits of the enabled byte lanes of a write. -/
def laneMask (lanes : BitVec 4) : Word :=
  (if lanes.getLsbD 0 then 0x000000FF else 0) ||| (if lanes.getLsbD 1 then 0x0000FF00 else 0) |||
    (if lanes.getLsbD 2 then 0x00FF0000 else 0) ||| (if lanes.getLsbD 3 then 0xFF000000 else 0)

/-- The word a write is judged as: its enabled lanes, and the register's current value in the others (R156). -/
def State.mergeWrite (s : State) (g : Reg) (d : BusWrite) : Word :=
  (d.value &&& laneMask d.lanes) ||| (s.readReg g &&& ~~~(laneMask d.lanes))

/-! ### Writes of a whole word, each judged by its owning rule -/

/-- The hold limit, 16 to 65535 µs (R79). -/
def State.writeHoldLimit (s : State) (v : Word) : State :=
  if 16 ≤ bitsOf v 0 16 then { s with holdLimit := v.extractLsb' 0 16 } else s.ignoreWrite

/-- The minimum gap, 10 to 65535 µs and not above the internal period (R144). -/
def State.writeGap (s : State) (v : Word) : State :=
  if 10 ≤ bitsOf v 0 16 ∧ bitsOf v 0 16 ≤ s.sel.period.toNat then
    { s with sel := { s.sel with gap := v.extractLsb' 0 16 } }
  else s.ignoreWrite

/-- The internal period, 100 to 1,000,000 µs and not below the minimum gap; the next time stays as scheduled (R143). -/
def State.writePeriod (s : State) (v : Word) : State :=
  if Config.minPeriod ≤ bitsOf v 0 20 ∧ bitsOf v 0 20 ≤ Config.maxPeriod ∧ s.sel.gap.toNat ≤ bitsOf v 0 20 then
    { s with sel := { s.sel with period := v.extractLsb' 0 20 } }
  else s.ignoreWrite

/-- C is an external source whose tracker does not hold lock (R151). -/
def State.currentLost (s : State) : Bool :=
  match s.sel.current.line? with
  | some t => !(s.tracker t).holdsLock
  | none => false

/-- The failover enable; setting it while C has no lock makes a failover (R151). -/
def State.writeFailover (s : State) (v : Word) : State :=
  let s' := { s with sel := { s.sel with failoverEnable := v.getLsbD 0 } }
  if v.getLsbD 0 && s'.currentLost then s'.failover s'.sel.current else s'

/-- The tracker's source is the current source or the pending target (R126, R152). -/
def State.sourceTaken (s : State) (t : BeatLine) : Bool :=
  s.sel.current == t.source || s.sel.target == some t.source

/-- T, Q and M together (R125, R126). -/
def State.writeTrackerConfig (s : State) (t : BeatLine) (v : Word) : State :=
  if s.sourceTaken t then s.ignoreWrite
  else if 1 ≤ bitsOf v 0 12 ∧ 2 ≤ bitsOf v 16 4 ∧ 1 ≤ bitsOf v 24 3 then
    s.setTracker t
      { s.tracker t with
        tolerance := v.extractLsb' 0 12, qualCount := v.extractLsb' 16 4, missLimit := v.extractLsb' 24 3 }
  else s.ignoreWrite

/-- A write of enable set: a DISABLED tracker becomes SEEKING; any other is unchanged (R126, R128). -/
def State.enableTracker (s : State) (t : BeatLine) : State :=
  if (s.tracker t).state = .disabled then
    s.setTracker t { s.tracker t with enable := true, state := .seeking }
  else s

/-- The tracker after a disable: its learned values and counts are given up, its configuration kept (R129). -/
def Tracker.disabled (v : Tracker) : Tracker :=
  { v with enable := false, state := .disabled, refPeriod := none, expected := none, lastEdge := none, goodCount := 0,
           missedCount := 0, earlyCount := 0 }

/-- A write of enable clear: ignored for the current source and the pending target; no change to a DISABLED tracker
(R126, R129). -/
def State.disableTracker (s : State) (t : BeatLine) : State :=
  if s.sourceTaken t then s.ignoreWrite
  else if (s.tracker t).state = .disabled then s
  else s.setTracker t (s.tracker t).disabled

/-- The tracker enable register. -/
def State.writeTrackerEnable (s : State) (t : BeatLine) (v : Word) : State :=
  if v.getLsbD 0 then s.enableTracker t else s.disableTracker t

/-- Clear the ignored-write flag (R160). -/
def State.clearIgnored (s : State) : State := { s with port := { s.port with ignoredWrite := false } }

/-- Clear the refused-busy flag (R161). -/
def State.clearRefused (s : State) : State := { s with port := { s.port with refusedBusy := false } }

/-- The flags register: write 1 to clear (R160, R161). -/
def State.writeFlags (s : State) (v : Word) : State :=
  let s' := if v.getLsbD 0 then s.clearIgnored else s
  if v.getLsbD 1 then s'.clearRefused else s'

/-- The source a code of two bits names (R159). -/
def sourceOf (n : Nat) : Source :=
  match n with
  | 0 => .beatA
  | 1 => .beatB
  | 2 => .internal
  | _ => .soft

/-- The argument register (R159, R163). -/
def State.writeArgument (s : State) (v : Word) : State :=
  { s with port := { s.port with argument :=
      { window := (v.extractLsb' 0 4).toFin, mode := if v.getLsbD 8 then .discard else .commit
        source := sourceOf (bitsOf v 16 2) } } }

/-- The kind mask, bits 15:1 (R171). -/
def State.writeMask (s : State) (v : Word) : State :=
  { s with notif := { s.notif with mask := v.extractLsb' 0 16 &&& 0xFFFE } }

/-- The interrupt enable (R178). -/
def State.writeIntEnable (s : State) (v : Word) : State :=
  { s with notif := { s.notif with intEnable := v.getLsbD 0 } }

/-- The pop register, with any value: the head record is removed, if there is one (R175). -/
def State.popHead (s : State) : State := { s with notif := { s.notif with queue := s.notif.queue.tail } }

/-- The overflow count register, with any value (R177). -/
def State.clearOverflow (s : State) : State := { s with notif := { s.notif with overflow := 0 } }

/-- The readiness mode of a code; none for code 3 (R159). -/
def readinessOf (n : Nat) : Option Readiness :=
  match n with
  | 0 => some .any
  | 1 => some .count
  | 2 => some .mark
  | _ => none

/-- The exhaustion policy of a code; none for code 3 (R159). -/
def exhaustionOf (n : Nat) : Option ExhaustionPolicy :=
  match n with
  | 0 => some .hold
  | 1 => some .bypass
  | 2 => some .refuse
  | _ => none

/-- The descriptor with word `i` written; none where a mode field would take code 3 (R159). -/
def Descriptor.withWord (d : Descriptor) (v : Word) : Fin 6 → Option Descriptor
  | 0 => some { d with base := d.base.extractLsb' 26 16 ++ v.extractLsb' 6 26 }
  | 1 => some { d with base := v.extractLsb' 0 16 ++ d.base.extractLsb' 0 26 }
  | 2 => (readinessOf (bitsOf v 20 2)).map fun m =>
      { d with size := v.extractLsb' 0 13, interval := v.extractLsb' 16 3, readiness := m }
  | 3 => (exhaustionOf (bitsOf v 17 2)).map fun p =>
      { d with readyCount := v.extractLsb' 0 16, late := if v.getLsbD 16 then .discard else .carry, exhaustion := p
               tally := v.getLsbD 20, notifyCommit := v.getLsbD 21 }
  | 4 => some { d with quota := v.extractLsb' 0 10, reserve := v.extractLsb' 16 10 }
  | 5 => some { d with producers := v.extractLsb' 0 16 }

/-- A descriptor word: taken while the window is OFF and no mode field takes code 3 (R4, R159). -/
def State.writeDescriptor (s : State) (w : WindowId) (i : Fin 6) (v : Word) : State :=
  if (s.window w).state = .off then
    match (s.window w).desc.withWord v i with
    | some d => s.updWindow w fun u => { u with desc := d }
    | none => s.ignoreWrite
  else s.ignoreWrite

/-- A write of a register with a whole word, judged by the rule that owns it; a read-only register is unchanged and no flag
is set (R156, R158). -/
def State.writeReg (s : State) (g : Reg) (v : Word) : State :=
  match g with
  | .flags => s.writeFlags v
  | .holdLimit => s.writeHoldLimit v
  | .minimumGap => s.writeGap v
  | .internalPeriod => s.writePeriod v
  | .failoverEnable => s.writeFailover v
  | .trackerConfig t => s.writeTrackerConfig t v
  | .trackerEnable t => s.writeTrackerEnable t v
  | .command => s.commandWrite (v.extractLsb' 0 8)
  | .argument => s.writeArgument v
  | .pop => s.popHead
  | .kindMask => s.writeMask v
  | .overflowCount => s.clearOverflow
  | .interruptEnable => s.writeIntEnable v
  | .descriptor w i => s.writeDescriptor w i v
  | .identification | .trackerStatus _ | .trackerPeriod _ | .selectorStatus | .beatNumber | .freeCount | .result | .busy
  | .head _ | .queueCount | .status _ _ => s

/-- A write on the management bus: merged, then judged (R156); an offset that holds no register takes no effect. -/
def State.busWrite (s : State) (offset : BitVec 12) (d : BusWrite) : State :=
  match regAt offset with
  | some g => s.writeReg g (s.mergeWrite g d)
  | none => s

end Sys2Proof.Machine
end

