-- ==== Sys2Proof/Machine/Management.lean ====
section
/-! DEFINITION. The meanings of the register writes (09_the_management_port): each merges its disabled byte lanes (R156) and is judged by its owning
rule. -/

namespace Sys2Proof.Machine

/-- DESCRIPTOR_WRITE (R4): word `i` of window `w`'s descriptor. -/
def execDescriptorWrite (w : WindowId) (i : Fin 6) (d : BusWrite) (s : State) : Host.Outcome State Fault Refusal :=
  .next (s.writeDescriptor w i (s.mergeWrite (.descriptor w i) d))

/-- HOLD_LIMIT_WRITE (R79). -/
def execHoldLimitWrite (d : BusWrite) (s : State) : Host.Outcome State Fault Refusal :=
  .next (s.writeHoldLimit (s.mergeWrite .holdLimit d))

/-- MINIMUM_GAP_WRITE (R144). -/
def execMinimumGapWrite (d : BusWrite) (s : State) : Host.Outcome State Fault Refusal :=
  .next (s.writeGap (s.mergeWrite .minimumGap d))

/-- INTERNAL_PERIOD_WRITE (R143). -/
def execInternalPeriodWrite (d : BusWrite) (s : State) : Host.Outcome State Fault Refusal :=
  .next (s.writePeriod (s.mergeWrite .internalPeriod d))

/-- FAILOVER_ENABLE_WRITE (R151). -/
def execFailoverEnableWrite (d : BusWrite) (s : State) : Host.Outcome State Fault Refusal :=
  .next (s.writeFailover (s.mergeWrite .failoverEnable d))

/-- TRACKER_CONFIGURATION_WRITE (R126). -/
def execTrackerConfigurationWrite (t : BeatLine) (d : BusWrite) (s : State) : Host.Outcome State Fault Refusal :=
  .next (s.writeTrackerConfig t (s.mergeWrite (.trackerConfig t) d))

/-- TRACKER_ENABLE_SET (R128). -/
def execTrackerEnableSet (t : BeatLine) (s : State) : Host.Outcome State Fault Refusal := .next (s.enableTracker t)

/-- TRACKER_ENABLE_CLEAR (R129). -/
def execTrackerEnableClear (t : BeatLine) (s : State) : Host.Outcome State Fault Refusal := .next (s.disableTracker t)

/-- CLEAR_IGNORED_WRITE (R160): a write of the flags register with bit 0 alone set. -/
def execClearIgnoredWrite (s : State) : Host.Outcome State Fault Refusal := .next s.clearIgnored

/-- CLEAR_REFUSED_BUSY (R161): a write of the flags register with bit 1 alone set. -/
def execClearRefusedBusy (s : State) : Host.Outcome State Fault Refusal := .next s.clearRefused

/-- POP (R175). -/
def execPop (s : State) : Host.Outcome State Fault Refusal := .next s.popHead

/-- OVERFLOW_COUNT_CLEAR (R177). -/
def execOverflowCountClear (s : State) : Host.Outcome State Fault Refusal := .next s.clearOverflow

/-- INTERRUPT_ENABLE_WRITE (R178). -/
def execInterruptEnableWrite (d : BusWrite) (s : State) : Host.Outcome State Fault Refusal :=
  .next (s.writeIntEnable (s.mergeWrite .interruptEnable d))

/-- REGISTER_WRITE (R156): a write of any offset of the register window. -/
def execRegisterWrite (offset : BitVec 12) (d : BusWrite) (s : State) : Host.Outcome State Fault Refusal :=
  .next (s.busWrite offset d)

end Sys2Proof.Machine
end

