-- ==== Sys2Proof/Machine/Dispatch.lean ====
section
/-! DEFINITION. One arm for each command: its meaning. -/

namespace Sys2Proof.Machine

/-- The effect of a command on everything but the queue. -/
def exec (i : Instr) (s : State) : Host.Outcome State Fault Refusal :=
  match i with
  | .hardwareReset => Sys2Proof.Machine.execHardwareReset s
  | .hostSideRequest r => Sys2Proof.Machine.execHostSideRequest r s
  | .hostOriginCompletion n a => Sys2Proof.Machine.execHostOriginCompletion n a s
  | .drainCompletion l a => Sys2Proof.Machine.execDrainCompletion l a s
  | .holdTimeout n => Sys2Proof.Machine.execHoldTimeout n s
  | .beatEdge t => Sys2Proof.Machine.execBeatEdge t s
  | .trackerMiss t => Sys2Proof.Machine.execTrackerMiss t s
  | .internalCandidate => Sys2Proof.Machine.execInternalCandidate s
  | .openWindow => Sys2Proof.Machine.execOpenWindow s
  | .closeWindow => Sys2Proof.Machine.execCloseWindow s
  | .selectSource => Sys2Proof.Machine.execSelectSource s
  | .beatNow => Sys2Proof.Machine.execBeatNow s
  | .initCommand => Sys2Proof.Machine.execInitCommand s
  | .initEnd => Sys2Proof.Machine.execInitEnd s
  | .undefinedCommand code => Sys2Proof.Machine.execUndefinedCommand code s
  | .descriptorWrite w k d => Sys2Proof.Machine.execDescriptorWrite w k d s
  | .holdLimitWrite d => Sys2Proof.Machine.execHoldLimitWrite d s
  | .minimumGapWrite d => Sys2Proof.Machine.execMinimumGapWrite d s
  | .internalPeriodWrite d => Sys2Proof.Machine.execInternalPeriodWrite d s
  | .failoverEnableWrite d => Sys2Proof.Machine.execFailoverEnableWrite d s
  | .trackerConfigurationWrite t d => Sys2Proof.Machine.execTrackerConfigurationWrite t d s
  | .trackerEnableSet t => Sys2Proof.Machine.execTrackerEnableSet t s
  | .trackerEnableClear t => Sys2Proof.Machine.execTrackerEnableClear t s
  | .clearIgnoredWrite => Sys2Proof.Machine.execClearIgnoredWrite s
  | .clearRefusedBusy => Sys2Proof.Machine.execClearRefusedBusy s
  | .pop => Sys2Proof.Machine.execPop s
  | .overflowCountClear => Sys2Proof.Machine.execOverflowCountClear s
  | .interruptEnableWrite d => Sys2Proof.Machine.execInterruptEnableWrite d s
  | .registerWrite o d => Sys2Proof.Machine.execRegisterWrite o d s
  | .unmatchedMemoryAnswer a => Sys2Proof.Machine.execUnmatchedMemoryAnswer a s

end Sys2Proof.Machine
end

