-- ==== Sys2Proof/Machine/Idle.lean ====
section
/-! DEFINITION. What the part does when no command waits (log entry 1): the happenings that its own time base makes due, then a request that
waits on the host-side bus, then the passing of one microsecond. -/

namespace Sys2Proof.Machine

/-- The oldest held request whose deadline is reached (R80). -/
def State.dueTimeout (s : State) : Option Held := s.holdQueue.find? fun h => decide (h.deadline ≤ s.timeBase)

/-- One microsecond passes (R1). -/
def State.tick (s : State) : State := { s with timeBase := s.timeBase + 1 }

/-- The part on its own. Everything that the time base makes due at this moment is taken, one happening a step, before the
time base moves on, so that each happens at the first moment at which its time is reached (R1). Happenings due at one moment
may be taken in any order (R80, R153); the model takes the misses, the timeouts and then the generator's candidate. -/
def State.idle (s : State) : State :=
  if s.trackerA.missDue s.timeBase then s.miss .a
  else if s.trackerB.missDue s.timeBase then s.miss .b
  else
    match s.dueTimeout with
    | some h => s.timeout h
    | none =>
      if s.internalDue then s.internalTick
      else if s.canTake && !s.hostBus.isEmpty then s.takePresented
      else s.tick

end Sys2Proof.Machine
end

