-- ==== Sys2Proof/Safety.lean ====
section
/-! DEFINITION. What a lawful state of the FC16 is: the laws that the spec states of every moment, block by block, in the terms that the
claims use. -/

namespace Sys2Proof.Machine

/-! ### Capacities (R47, R71, R108) -/

/-- No list holds more than its rule allows: 24 in flight (R47), 8 held (R71), 12 host-origin requests and 4 drain writes
outstanding (R108). -/
def State.withinLimits (s : State) : Prop :=
  s.inflight.length ≤ 24 ∧ s.holdQueue.length ≤ 8 ∧ s.hostCount ≤ 12 ∧ s.drainCount ≤ 4

/-! ### Notifications (R172) -/

/-- Two records share kind and subject (R172). -/
def NotifRecord.sameKey (x y : NotifRecord) : Prop := x.kind = y.kind ∧ x.subject = y.subject

/-- The law of the notification queue: at most 32 records, and no two of them other than the head share kind and subject
(R172). -/
def Notifier.lawful (n : Notifier) : Prop :=
  n.queue.length ≤ 32 ∧ n.queue.tail.Pairwise fun x y => ¬ x.sameKey y

/-- Every occurrence count, and the overflow count, stands at 65535 or below (R170, R177). -/
def Notifier.counted (n : Notifier) : Prop := (∀ x ∈ n.queue, x.count ≤ 65535) ∧ n.overflow ≤ 65535

/-! ### Answers and places in take order (R46, R48) -/

/-- The places in take order of the answers sent to an initiator, and then of its requests in flight. -/
def State.placesOf (s : State) (i : Initiator) : List Nat :=
  ((s.answers.filter fun a => a.initiator == i).map (·.order)) ++
    ((s.inflight.filter fun e => e.request.initiator == i).map (·.order))

/-- Answers to each initiator have left in take order, its requests in flight are younger than those answered, and none is
younger than the requests taken so far (R48). -/
def State.answersInOrder (s : State) : Prop :=
  ∀ i, (s.placesOf i).Pairwise (· < ·) ∧ ∀ n ∈ s.placesOf i, n < s.nextOrder

/-! ### The ports and the hold queue (R47, R70, R108, R109) -/

/-- The host-origin requests that wait or are outstanding. -/
def State.downstream (s : State) : List HostDown :=
  s.waitList ++ s.outstanding.filterMap fun o =>
    match o with
    | .host d => some d
    | .drain _ => none

/-- The entry is HELD. -/
def InFlight.isHeld (e : InFlight) : Bool := e.status == .held

/-- The entry is DOWNSTREAM. -/
def InFlight.isDown (e : InFlight) : Bool := e.status == .downstream

/-- The in-flight list, the hold queue, the wait list and the outstanding table agree: in take order, the HELD entries are the
held requests (R70, R71) and the DOWNSTREAM entries are the requests that wait or are outstanding, one each and of the same
initiator (R47, R108); the in-flight list and the wait list stand in take order (R47, R109). -/
def State.portsAgree (s : State) : Prop :=
  (s.inflight.map (·.order)).Pairwise (· < ·) ∧
  (∀ e ∈ s.inflight, e.order < s.nextOrder) ∧
  s.holdQueue.map (fun h => (h.order, h.request)) =
    (s.inflight.filter (·.isHeld)).map (fun e => (e.order, e.request)) ∧
  (s.waitList.map (·.order)).Pairwise (· < ·) ∧
  (s.downstream.map fun d => (d.order, d.request.initiator)).Perm
    ((s.inflight.filter (·.isDown)).map fun e => (e.order, e.request.initiator))

/-! ### The staging store (R12, R23, R28, R29) -/

/-- For each window and line at most one PENDING and at most one COMMITTED entry (R23). -/
def State.entriesUnique (s : State) : Prop :=
  s.pool.Pairwise fun e f => ¬ (e.window = f.window ∧ e.line = f.line ∧ e.isPending = f.isPending)

/-- A window in OFF owns no entry and has no drain write outstanding (R12), no window owns more than its quota (R28), and the
drain queue names COMMITTED entries of the pool (R106). -/
def State.storeLawful (s : State) : Prop :=
  (∀ w, (s.window w).state = .off → s.inUse w = 0 ∧ ∀ r, Outstanding.drain r ∈ s.outstanding → r.window ≠ w) ∧
  (∀ w, s.inUse w ≤ (s.window w).desc.quota.toNat ∨ (s.window w).state = .off) ∧
  ∀ d ∈ s.drainQueue, ∃ e ∈ s.pool, e.isCommittedOf d.window d.line = true

/-- The pool holds at most 512 owned entries, and its free entries cover the total outstanding reserve (R21, R29). -/
def State.reserveKept (s : State) : Prop := s.pool.length ≤ 512 ∧ s.totalReserve ≤ s.freeCount

/-! ### Window records (R6, R9, R11, R89) -/

/-- A window's runtime record holds values that R9 gives for its state: a close mode exactly while CLOSING; OFF with the frame
and the countdown clear; ACTIVE with countdown 1 to 2^k and not due, or 0 and due; FAULTED neither ready nor due; an ANY frame never ready
(R6); the counts saturated at 65535. -/
def Window.lawful (v : Window) : Prop :=
  (v.closeMode.isSome ↔ v.state = .closing) ∧
  (v.state = .off →
    v.countdown = 0 ∧ v.due = false ∧ v.ready = false ∧ v.torn = false ∧ v.lateNoted = false ∧ v.slipNoted = false ∧
      v.writeCount = 0) ∧
  (v.state = .active → (v.due = true ↔ v.countdown = 0)) ∧
  (v.state ≠ .off → v.countdown ≤ 2 ^ v.desc.interval.toNat) ∧
  (v.state = .faulted → v.ready = false ∧ v.due = false) ∧
  (v.ready = true → v.desc.readiness ≠ .any) ∧
  v.writeCount ≤ 65535 ∧ v.lateEvents ≤ 65535 ∧ v.slips ≤ 65535 ∧ v.exhaustions ≤ 65535 ∧ v.holdTimeouts ≤ 65535 ∧
  v.drainFaults ≤ 65535

/-! ### Trackers and selector (R125, R128, R143 to R146, R150, R151) -/

/-- A tracker's configuration is in range (R125), and its values are those R128 gives for its state. -/
def Tracker.lawful (v : Tracker) : Prop :=
  (1 ≤ v.tolerance.toNat ∧ 2 ≤ v.qualCount.toNat ∧ 1 ≤ v.missLimit.toNat) ∧
  (v.enable = true ↔ v.state ≠ .disabled) ∧
  (v.state = .disabled →
    v.refPeriod = none ∧ v.expected = none ∧ v.lastEdge = none ∧ v.goodCount = 0 ∧ v.missedCount = 0 ∧ v.earlyCount = 0) ∧
  (v.state = .seeking → v.refPeriod = none ∧ v.expected = none ∧ v.missedCount = 0) ∧
  (v.state = .qualifying → v.lastEdge ≠ none ∧ v.expected = none ∧ 1 ≤ v.goodCount ∧ v.goodCount ≤ 14) ∧
  (v.holdsLock = true → v.refPeriod ≠ none ∧ v.expected ≠ none ∧ v.missedCount ≤ 6) ∧
  (∀ p, v.refPeriod = some p → 100 ≤ p ∧ p ≤ 1000000) ∧ v.earlyCount ≤ 65535

/-- The selector's settings are in range and the pending target is not the current source (R143, R144, R146). -/
def Selector.lawful (x : Selector) : Prop :=
  x.target ≠ some x.current ∧ 10 ≤ x.gap.toNat ∧ x.gap.toNat ≤ x.period.toNat ∧ 100 ≤ x.period.toNat ∧
    x.period.toNat ≤ 1000000

/-- The current source and the pending target are not DISABLED (R126, R147); an external current source has delivered a beat
(R150); and while the failover enable is set its tracker holds lock (R150, R151). -/
def State.sourcesLawful (s : State) : Prop :=
  ∀ t : BeatLine,
    (s.sel.current = t.source ∨ s.sel.target = some t.source → (s.tracker t).state ≠ .disabled) ∧
    (s.sel.current = t.source → s.sel.lastDelivered ≠ none) ∧
    (s.sel.current = t.source → s.sel.failoverEnable = true → (s.tracker t).holdsLock = true)

/-- While INIT is in progress nothing is held (R83). -/
def State.initHoldsNothing (s : State) : Prop := s.port.busy = true → s.holdQueue = []

/-- No initiator's oldest request in flight is READY: an answer that can leave has left (R48). -/
def State.noAnswerWaits (s : State) : Prop :=
  ∀ i e, s.inflight.find? (fun e => e.request.initiator == i) = some e → ∀ a, e.status ≠ .ready a

/-! ### What claims compare with -/

/-- The states differ at most in the windows, the pool and the notifications: the parts that steering touches before a request
is entered. -/
def State.sameButStore (s t : State) : Prop :=
  t = { s with windows := t.windows, pool := t.pool, notif := t.notif }

/-- The state less the PENDING entries of a window. -/
def State.withoutPending (s : State) (w : WindowId) : State :=
  { s with pool := s.pool.filter fun e => !(e.window == w && e.isPending) }

/-- Nothing that the time base makes happen is due (R1). -/
def State.nothingDue (s : State) : Prop :=
  (∀ t, (s.tracker t).missDue s.timeBase = false) ∧ (∀ h ∈ s.holdQueue, s.timeBase < h.deadline) ∧
    s.timeBase < s.sel.nextTime

/-- The bus presents a request alone, and the take conditions hold (R45). -/
def State.takesNext (s : State) : Prop :=
  s.hostBus = [] ∧ s.inflight.length < 24 ∧ s.holdQueue.length < 8 ∧ s.hostCount < 12 ∧ s.port.busy = false

/-- No request waits on the bus, or a take condition fails (R45). -/
def State.nothingToTake (s : State) : Prop := s.hostBus = [] ∨ ¬ ({ s with hostBus := [] } : State).takesNext

/-- No request of the initiator is held (R52). -/
def State.noneHeldOf (s : State) (i : Initiator) : Prop := ∀ h ∈ s.holdQueue, h.request.initiator ≠ i

/-- No request is held EXHAUSTED for the window (R74). -/
def State.noneWaitsForRoom (s : State) (w : WindowId) : Prop :=
  ∀ h ∈ s.holdQueue, ¬ (h.reason = .exhausted ∧ h.window = some w)

/-- `s` with a request taken and its answer determined at once: its entry is the youngest of the list, and the answers of its
initiator leave as far as they can (R46 to R48); `cap` is what a READ captured. -/
def State.answerTaken (s : State) (r : Request) (w : Option WindowId) (a : AnswerForm)
    (cap : Option (List (Option Byte)) := none) : State :=
  State.depart
    { s with
      inflight := s.inflight ++
        [{ order := s.nextOrder, request := r, takeTime := s.timeBase, window := w, status := .ready a, capture := cap }]
      nextOrder := s.nextOrder + 1 }
    r.initiator

/-- `s` with a request taken and held: it is the youngest of the in-flight list and the tail of the hold queue, its deadline the
take time plus the hold limit (R47, R70, R71, R79). -/
def State.heldTaken (s : State) (r : Request) (reason : HoldReason) (w : Option WindowId) (met : Bool) : State :=
  { s with
    inflight := s.inflight ++
      [{ order := s.nextOrder, request := r, takeTime := s.timeBase, window := w, status := .held, capture := none }]
    holdQueue := s.holdQueue ++
      [{ order := s.nextOrder, request := r, reason := reason, window := w, line := r.line, takeTime := s.timeBase,
         deadline := s.timeBase + s.holdLimit.toNat, exhaustionMet := met }]
    nextOrder := s.nextOrder + 1 }

/-- `s` with a request taken and `d` issued to memory for it at once, the wait list being empty: DOWNSTREAM, and in the outstanding
table (R47, R108, R109). -/
def State.sentTaken (s : State) (r : Request) (w : Option WindowId) (p : Purpose) (d : Request)
    (cap : Option (List (Option Byte))) : State :=
  { s with
    inflight := s.inflight ++
      [{ order := s.nextOrder, request := r, takeTime := s.timeBase, window := w, status := .downstream, capture := cap }]
    outstanding := s.outstanding ++ [.host { order := s.nextOrder, purpose := p, request := d }]
    issued := s.issued ++ [.host d]
    nextOrder := s.nextOrder + 1 }

/-- The selector after a candidate of source `c` and time `t`: delivered from C, completing the switch from P, or unchanged
(R142, R144, R145, R148). -/
def Selector.afterCandidate (x : Selector) (c : Source) (t : Time) : Selector :=
  if (∀ d, x.lastDelivered = some d → d + x.gap.toNat ≤ t) ∧ (c = x.current ∨ x.target = some c) then
    { x with
      beatNumber := x.beatNumber + 1
      lastDelivered := some t
      current := c
      target := if c = x.current then x.target else none }
  else x

/-- The part of a window's record that a re-examination of held requests leaves as it is. -/
def Window.scheduled (v : Window) : Window := { v with writeCount := 0, ready := false, torn := false, exhaustions := 0 }

/-- The lines of a window's pending list, in pending-list order (R24). -/
def State.pendingLines (s : State) (w : WindowId) : List Line := (s.pendingList w).map (·.line)

/-- The lines of a window's committed set (R25). -/
def State.committedLines (s : State) (w : WindowId) : List Line := (s.committedSet w).map (·.line)

/-- The answer of the request at place `n` of initiator `i` is determined and is `a`: it has left, or its entry is READY with it
(R48). -/
def State.answered (t : State) (n : Nat) (i : Initiator) (a : AnswerForm) : Prop :=
  ({ order := n, initiator := i, form := a } : Answer) ∈ t.answers ∨
    ∃ e ∈ t.inflight, e.order = n ∧ e.request.initiator = i ∧ e.status = .ready a

/-- The request at place `n` is no longer held. -/
def State.hasLeft (t : State) (n : Nat) : Prop := ∀ g ∈ t.holdQueue, g.order ≠ n

/-- The request `h`, held for window `w`, is a producer's WRITE of a line of `w` that is no tally write. -/
def State.heldWrite (s : State) (h : Held) (w : WindowId) : Prop :=
  h.window = some w ∧ h.line = h.request.line ∧ s.windowOf h.line = some w ∧ (∃ lanes, h.request.kind = .write lanes) ∧
    (s.window w).isProducer h.request.initiator = true ∧ (s.window w).tallyWrite h.request = false

/-- The window once it has become OFF by closing: its commit record and its counters are kept (R9, R17). -/
def Window.shut (v : Window) : Window :=
  { v with
    state := .off, closeMode := none, countdown := 0, due := false, ready := false, writeCount := 0, torn := false
    lateNoted := false, slipNoted := false }

/-- `t` is `s` once INIT has ended: the pool free, every window OFF at the values of R19 with its descriptor, the notification queue
empty, and the result DONE (R168). -/
def State.isEndOf (t s : State) : Prop :=
  t = { s with
        pool := [], drainQueue := []
        windows := t.windows
        notif := { s.notif with queue := [], overflow := 0 }
        port := { s.port with busy := false, result := some (.done, .init) } } ∧
    ∀ w, t.window w =
      { desc := (s.window w).desc, state := .off, closeMode := none, countdown := 0, due := false, ready := false,
        writeCount := 0, torn := false, lateNoted := false, slipNoted := false, commitCount := 0, lastCommitBeat := 0,
        lateEvents := 0, slips := 0, exhaustions := 0, holdTimeouts := 0, drainFaults := 0 }

/-! ### The issue rule (R93, R110) -/

/-- From `s` to `t` the drain engine has applied its issue rule to the queue `q`: from the head on, the entries whose lines are not busy,
as many as there are free drain slots, became ISSUED and went to memory with their bytes; the others keep their order (R107, R110). -/
def State.issuesFrom (s t : State) (q : List DrainRef) : Prop :=
  ∀ (slots : Nat) (ready : List DrainRef), slots = min (4 - s.drainCount) (16 - s.outstanding.length) →
    ready = q.filter (fun d => !t.lineBusy d.line) →
    t.outstanding = s.outstanding ++ (ready.take slots).map .drain ∧
    t.drainQueue.Sublist q ∧ t.drainQueue.filter (fun d => !t.lineBusy d.line) = ready.drop slots ∧
    t.drainQueue.filter (fun d => t.lineBusy d.line) = q.filter (fun d => t.lineBusy d.line) ∧
    ∀ d ∈ ready.take slots, ∀ e, t.committedEntry d.window d.line = some e →
      e.isQueued = false ∧
        BusRequest.drain d.line (e.cells.map fun c => (c.isSome, c.getD 0)) ∈ t.issued.drop s.issued.length

/-- The entries of the frames that committed from `s` to `t`: in ascending window number, and of one window in pending-list order
(R93). -/
def State.framesCommitted (s t : State) : List DrainRef :=
  windowIds.flatMap fun u =>
    if (t.window u).commitCount = (s.window u).commitCount then []
    else (s.pendingLines u).map fun l => { window := u, line := l }

/-- Each entry left in the drain queue has a busy line, or no drain slot is free (R110). -/
def State.drainSettled (t : State) : Prop :=
  ∀ d ∈ t.drainQueue, t.lineBusy d.line = true ∨ 4 ≤ t.drainCount ∨ 16 ≤ t.outstanding.length

/-! ### Delivered beats -/

/-- The command makes a candidate of source `x` now: the generator at its next time (R143), BEAT_NOW (R149), an edge that a
tracker in lock accepts (R133, R136), or a miss below the limit (R134, R136). -/
def State.offers (s : State) (c : Instr) (x : Source) : Prop :=
  (c = .internalCandidate ∧ x = .internal ∧ s.sel.nextTime ≤ s.timeBase) ∨ (c = .beatNow ∧ x = .soft) ∨
    ∃ (tr : BeatLine) (e p : Nat), x = tr.source ∧ (s.tracker tr).holdsLock = true ∧ (s.tracker tr).expected = some e ∧
      (s.tracker tr).refPeriod = some p ∧
      ((c = .beatEdge tr ∧ e ≤ s.timeBase + (s.tracker tr).tolerance.toNat ∧
          s.timeBase ≤ e + (s.tracker tr).tolerance.toNat) ∨
        (c = .trackerMiss tr ∧ e + (s.tracker tr).tolerance.toNat ≤ s.timeBase ∧
          (s.tracker tr).missedCount + 1 < (s.tracker tr).missLimit.toNat))

/-- The command delivers a beat of source `x` that windows are evaluated at: its candidate is of C or of P and passes the gap
test, and INIT is not in progress (R86, R87, R142, R144, R145, R148). -/
def State.beatComesBy (s : State) (c : Instr) (x : Source) : Prop :=
  s.offers c x ∧ (x = s.sel.current ∨ s.sel.target = some x) ∧
    (∀ d, s.sel.lastDelivered = some d → d + s.sel.gap.toNat ≤ s.timeBase) ∧ s.port.busy = false

/-- `s` with what a candidate of source `x` does at the selector: the beat, if it is delivered, and SOURCE_SWITCHED if it completes a
switch (R145, R148). -/
def State.afterBeat (s : State) (x : Source) : State :=
  let d := { s with sel := s.sel.afterCandidate x s.timeBase }
  if d.sel.current = s.sel.current then d else d.notify .sourceSwitched (.source x) none none

/-- A beat would change no window: INIT is in progress, or each window is OFF or FAULTED (R86, R87, R99). -/
def State.noFrame (s : State) : Prop :=
  s.port.busy = true ∨ ∀ w, (s.window w).state = .off ∨ (s.window w).state = .faulted

/-- From `s` to `t` window `w` becomes `v`; where requests are held, their re-examination may have changed the four fields that
`Window.scheduled` leaves out. -/
def State.windowBecomes (s t : State) (w : WindowId) (v : Window) : Prop :=
  (t.window w).scheduled = v.scheduled ∧ (s.holdQueue = [] → t.window w = v)

/-- The beat of source `x` records `k` for window `w`, or nothing: said where no other window has a frame and nothing is held, so
that nothing else is recorded but a switch of source. -/
def State.beatRecords (s t : State) (x : Source) (w : WindowId) (k : Option NotifKind) : Prop :=
  s.holdQueue = [] → (∀ u, u ≠ w → (s.window u).state = .off ∨ (s.window u).state = .faulted) →
    t.notif =
      (match k with
       | none => (s.afterBeat x).notif
       | some k => ((s.afterBeat x).notify k (.window w) none none).notif)

/-! ### What reads show (R158, R159, R175) -/

/-- The codes are those of R159's table of encodings, and the two bits of its layouts. -/
def codesAreThoseOfTheTable : Prop :=
  [WindowState.off, .active, .closing, .faulted].map (·.code) = [0, 1, 2, 3] ∧
    [none, some CloseMode.commit, some .discard].map closeCode = [0, 1, 2] ∧
    [Readiness.any, .count, .mark].map (·.code) = [0, 1, 2] ∧
    [ExhaustionPolicy.hold, .bypass, .refuse].map (·.code) = [0, 1, 2] ∧
    [LatePolicy.carry, .discard].map (·.code) = [0, 1] ∧ [CloseMode.commit, .discard].map (·.code) = [0, 1] ∧
    [TrackerState.disabled, .seeking, .qualifying, .locked, .holdover].map (·.code) = [0, 1, 2, 3, 4] ∧
    [Source.beatA, .beatB, .internal, .soft].map (·.code) = [0, 1, 2, 3] ∧
    [CommandName.openW, .closeW, .selectSource, .beatNow, .init].map (·.code) = [1, 2, 3, 4, 5] ∧
    [ResultCode.done, .suppressed, .refusedState, .refusedConfig, .refusedRoom].map (·.code) = [1, 2, 3, 4, 5] ∧
    [NotifKind.commit, .lateCarry, .lateDiscard, .slip, .exhausted, .torn, .holdTimeout, .foreignWrite, .badRequest, .drainFault,
      .windowOff, .lockGained, .lockLost, .failover, .sourceSwitched].map (·.code) = (List.range 15).map (· + 1) ∧
    (∀ w : WindowId, (Subject.window w).code = w.val) ∧ (∀ c : Source, (Subject.source c).code = c.code) ∧
    ∀ i : Initiator, (Subject.initiator i).code = i.val

/-- The word that a read of an offset shows, as a number. -/
def State.shows (s : State) (offset : Nat) : Nat := (s.readOffset (BitVec.ofNat 12 offset)).toNat

/-- The global registers and the command slot show their fields (R158, R159). -/
def State.globalsShow (s : State) : Prop :=
  s.shows 0x000 = 0x0F160001 ∧ s.shows 0x004 = s.port.ignoredWrite.toNat + 2 * s.port.refusedBusy.toNat ∧
    s.shows 0x008 = s.holdLimit.toNat ∧ s.shows 0x00C = s.sel.gap.toNat ∧ s.shows 0x010 = s.sel.period.toNat ∧
    s.shows 0x014 = s.sel.failoverEnable.toNat ∧
    (s.shows 0x040 % 4 = s.sel.current.code ∧ (s.readOffset 0x040).getLsbD 7 = s.sel.target.isSome ∧
      ∀ c, s.sel.target = some c → s.shows 0x040 = s.sel.current.code + 16 * c.code + 128) ∧
    s.shows 0x044 = s.sel.beatNumber.toNat ∧ s.shows 0x048 = s.freeCount ∧ s.shows 0x050 = 0 ∧
    s.shows 0x054 =
      s.port.argument.window.val + 2 ^ 8 * s.port.argument.mode.code + 2 ^ 16 * s.port.argument.source.code ∧
    (∀ r c, s.port.result = some (r, c) → s.shows 0x058 = r.code + 256 * c.code) ∧
    (s.port.result = none → s.shows 0x058 % 8 = 0) ∧ s.shows 0x05C = s.port.busy.toNat

/-- The registers of a tracker, from its first offset on, show its fields (R158, R159). -/
def State.trackerShows (s : State) (tr : BeatLine) (o : Nat) : Prop :=
  s.shows o =
      (s.tracker tr).tolerance.toNat + 2 ^ 16 * (s.tracker tr).qualCount.toNat + 2 ^ 24 * (s.tracker tr).missLimit.toNat ∧
    s.shows (o + 4) = (s.tracker tr).enable.toNat ∧
    s.shows (o + 8) = (s.tracker tr).state.code + 2 ^ 16 * (s.tracker tr).earlyCount ∧
    s.shows (o + 12) = (s.tracker tr).refPeriod.getD 0

/-- The descriptor words of a window show its descriptor (R158, R159). -/
def State.descriptorShows (s : State) (w : WindowId) : Prop :=
  let o := 0x100 + 0x20 * w.val
  let d := (s.window w).desc
  s.shows o + 2 ^ 32 * s.shows (o + 4) = 64 * d.base.toNat ∧
    s.shows (o + 8) = d.size.toNat + 2 ^ 16 * d.interval.toNat + 2 ^ 20 * d.readiness.code ∧
    s.shows (o + 12) =
      d.readyCount.toNat + 2 ^ 16 * d.late.code + 2 ^ 17 * d.exhaustion.code + 2 ^ 20 * d.tally.toNat +
        2 ^ 21 * d.notifyCommit.toNat ∧
    s.shows (o + 16) = d.quota.toNat + 2 ^ 16 * d.reserve.toNat ∧ s.shows (o + 20) = d.producers.toNat

/-- The status words of a window show its record (R158, R159). -/
def State.statusShows (s : State) (w : WindowId) : Prop :=
  let o := 0x300 + 0x20 * w.val
  let v := s.window w
  s.shows o = v.state.code + 16 * closeCode v.closeMode + 2 ^ 16 * s.inUse w ∧ s.shows (o + 4) = v.commitCount.toNat ∧
    s.shows (o + 8) = v.lastCommitBeat.toNat ∧ s.shows (o + 12) = v.lateEvents + 2 ^ 16 * v.slips ∧
    s.shows (o + 16) = v.exhaustions + 2 ^ 16 * v.holdTimeouts ∧ s.shows (o + 20) = v.drainFaults

/-- The notification registers show the head record, all 0 while the queue is empty, and the unit's counts and masks (R159,
R175). -/
def State.notificationsShow (s : State) : Prop :=
  (s.notif.queue = [] → ∀ i < 5, s.shows (0x080 + 4 * i) = 0) ∧
    (∀ x q, s.notif.queue = x :: q →
      s.shows 0x080 =
          x.kind.code + 2 ^ 8 * x.subject.code + 2 ^ 16 * x.line.isSome.toNat + 2 ^ 17 * x.initiator.isSome.toNat + 2 ^ 31 ∧
        s.shows 0x084 = x.beat.toNat ∧ s.shows 0x088 + 2 ^ 32 * s.shows 0x08C = 64 * (x.line.getD 0).toNat ∧
        s.shows 0x090 = (x.initiator.getD 0).val + 2 ^ 16 * x.count) ∧
    s.shows 0x094 = s.notif.queue.length ∧ s.shows 0x098 = 0 ∧ s.shows 0x09C = s.notif.mask.toNat ∧
    s.shows 0x0A0 = s.notif.overflow ∧ s.shows 0x0A4 = s.notif.intEnable.toNat

end Sys2Proof.Machine
end

