-- ==== Sys2Proof/WellFormed.lean ====
section
/-! DEFINITION. Which commands the buses can carry (R43, R112, R162). The meanings are total; a command that fails here
is one that no sender gives. -/

namespace Sys2Proof

/-- A request carries 0 to 64 bytes, and a WRITE one flag and one byte for each of them (R43). -/
def Request.wellFormed (r : Request) : Bool :=
  decide (r.size ≤ 64) &&
    match r.kind with
    | .read => true
    | .write lanes => lanes.length == r.size
    | .atomic _ _ => true

/-- An answer carries at most the 64 bytes of a line (R43, R112). -/
def MemAnswer.wellFormed : MemAnswer → Bool
  | .okay data => decide (data.length ≤ 64)
  | .error => true

/-- A command code the slot does not define: 0 or 6 to 255 (R162). -/
def undefinedCode (code : BitVec 8) : Bool :=
  decide (code.toNat = 0) || decide (6 ≤ code.toNat)

/-- The commands that can be sent. -/
def Instr.wellFormed : Instr → Bool
  | .hardwareReset => true
  | .hostSideRequest r => r.wellFormed
  | .hostOriginCompletion _ a => a.wellFormed
  | .drainCompletion _ _ => true
  | .holdTimeout _ => true
  | .beatEdge _ => true
  | .trackerMiss _ => true
  | .internalCandidate => true
  | .openWindow => true
  | .closeWindow => true
  | .selectSource => true
  | .beatNow => true
  | .initCommand => true
  | .initEnd => true
  | .undefinedCommand code => undefinedCode code
  | .descriptorWrite _ _ _ => true
  | .holdLimitWrite _ => true
  | .minimumGapWrite _ => true
  | .internalPeriodWrite _ => true
  | .failoverEnableWrite _ => true
  | .trackerConfigurationWrite _ _ => true
  | .trackerEnableSet _ => true
  | .trackerEnableClear _ => true
  | .clearIgnoredWrite => true
  | .clearRefusedBusy => true
  | .pop => true
  | .overflowCountClear => true
  | .interruptEnableWrite _ => true
  | .registerWrite _ _ => true
  | .unmatchedMemoryAnswer a => a.wellFormed

end Sys2Proof
end

