-- ==== Sys2Proof/Certificates/Slice0/Obligations.lean ====
section
/-! DEFINITION. The statements for the provers, from the numbered rules of spec/. Each docstring names the rules it formalises. -/

open Sys2Proof Sys2Proof.Machine

/-! ### The queue, time, and reset -/

/-- A command at the front of the queue is run by `exec` on the state with the rest of the queue. The queue is the model's own
(log entry 17). -/
def Obligations.StepRunsTheFrontCommand : Prop :=
  ∀ (s : State) (c : Instr) (rest : List Instr), s.pending = c :: rest → step s = exec c { s with pending := rest }

/-- A step on an empty queue takes what is due: a miss, of tracker A before tracker B (R134), else the oldest held request at its deadline
(R80), else the generator's candidate (R143); with none of these due, the request that has waited longest on the bus, once the take
conditions hold (R45); and with nothing to take, one microsecond passes and nothing else changes (R1). No other step but a hardware reset
changes the time, and a hardware reset sets it to 0. That a step on an empty queue does this, and the order in which it takes what is due,
are the model's choice (log entries 1 and 5). -/
def Obligations.TimePassesOnlyWhenNothingIsDue : Prop :=
  (∀ s t : State, step s = .next t →
    (∀ rest, s.pending = .hardwareReset :: rest → t.timeBase = 0) ∧
    ((∀ rest, s.pending ≠ .hardwareReset :: rest) →
      t.timeBase = s.timeBase ∨
        (s.pending = [] ∧ s.nothingDue ∧ s.nothingToTake ∧ t = { s with timeBase := s.timeBase + 1 }))) ∧
  ∀ s : State, s.pending = [] →
    ((s.tracker .a).missDue s.timeBase = true → step s = exec (.trackerMiss .a) s) ∧
    ((s.tracker .a).missDue s.timeBase = false → (s.tracker .b).missDue s.timeBase = true →
      step s = exec (.trackerMiss .b) s) ∧
    ((∀ tr, (s.tracker tr).missDue s.timeBase = false) →
      (∀ (h : Held) (pre post : List Held), s.holdQueue = pre ++ h :: post → (∀ g ∈ pre, s.timeBase < g.deadline) →
        h.deadline ≤ s.timeBase → step s = exec (.holdTimeout h.order) s) ∧
      ((∀ h ∈ s.holdQueue, s.timeBase < h.deadline) → s.sel.nextTime ≤ s.timeBase →
        step s = exec .internalCandidate s)) ∧
    (s.nothingDue →
      (∀ (r : Request) (rest : List Request), s.hostBus = r :: rest → ({ s with hostBus := [] } : State).takesNext →
        ∃ u, exec (.hostSideRequest r) { s with hostBus := [] } = .next u ∧ step s = .next { u with hostBus := rest }) ∧
      (s.nothingToTake → step s = .next { s with timeBase := s.timeBase + 1 }))

/-- HARDWARE_RESET completes and gives every block the values of its reset rule (R1, R4, R19, R42, R68, R84, R122, R125, R140, R155,
R158, R179); the argument's reset value, and the queue of commands, are as R158 and log entry 24 give. -/
def Obligations.HardwareResetGivesResetValues : Prop :=
  ∀ s : State, ∃ t, exec .hardwareReset s = .next t ∧
    t.timeBase = 0 ∧
    (∀ w, t.window w =
      { desc :=
          { base := 0, size := 0, producers := 0, interval := 0, readiness := .any, readyCount := 0, late := .carry,
            exhaustion := .hold, quota := 0, reserve := 0, tally := false, notifyCommit := false }
        state := .off, closeMode := none, countdown := 0, due := false, ready := false, writeCount := 0, torn := false,
        lateNoted := false, slipNoted := false, commitCount := 0, lastCommitBeat := 0, lateEvents := 0, slips := 0,
        exhaustions := 0, holdTimeouts := 0, drainFaults := 0 }) ∧
    t.pool = [] ∧ t.freeCount = 512 ∧ t.inflight = [] ∧ t.holdQueue = [] ∧ t.holdLimit = 2000 ∧ t.drainQueue = [] ∧
    t.waitList = [] ∧ t.outstanding = [] ∧
    (∀ tr, t.tracker tr =
      { enable := false, tolerance := 50, qualCount := 4, missLimit := 3, state := .disabled, refPeriod := none,
        expected := none, goodCount := 0, missedCount := 0, earlyCount := 0, lastEdge := none }) ∧
    t.sel =
      { current := .internal, target := none, beatNumber := 0, lastDelivered := none, gap := 100, failoverEnable := true,
        period := 1000, nextTime := 1000 } ∧
    t.port.ignoredWrite = false ∧ t.port.refusedBusy = false ∧ t.port.result = none ∧ t.port.busy = false ∧
    t.readReg .argument = 0 ∧
    t.notif = { queue := [], mask := 0xFFFE, overflow := 0, intEnable := false } ∧ t.intLine = false ∧
    t.pending = s.pending

/-- The state after reset meets every law that the statements below say each step keeps. -/
def Obligations.ResetStateIsLawful : Prop :=
  State.reset.withinLimits ∧ State.reset.notif.lawful ∧ State.reset.notif.counted ∧ State.reset.answersInOrder ∧ State.reset.portsAgree ∧
    State.reset.noAnswerWaits ∧ State.reset.entriesUnique ∧ State.reset.storeLawful ∧ State.reset.reserveKept ∧
    (∀ w, (State.reset.window w).lawful) ∧ (∀ tr, (State.reset.tracker tr).lawful) ∧ State.reset.sel.lawful ∧
    State.reset.sourcesLawful ∧ State.reset.initHoldsNothing

/-! ### Laws that every step keeps -/

/-- No step fills a list beyond its capacity: 24 in flight, 8 held, 12 host-origin requests and 4 drain writes outstanding (R47, R71,
R108). -/
def Obligations.CapacitiesAreKept : Prop :=
  ∀ s t : State, s.withinLimits → step s = .next t → t.withinLimits

/-- Every step keeps the law of the notification queue (R172); and it keeps the occurrence counts and the overflow count, which saturate,
at 65535 or below. -/
def Obligations.NotificationLawIsKept : Prop :=
  ∀ s t : State, s.notif.lawful → step s = .next t → t.notif.lawful ∧ (s.notif.counted → t.notif.counted)

/-- In every step answers to each initiator leave in the order its requests were taken (R48). -/
def Obligations.AnswersLeaveInTakeOrder : Prop :=
  ∀ s t : State, s.answersInOrder → step s = .next t → t.answersInOrder

/-- In every step the in-flight list, the hold queue, the wait list and the outstanding table go on agreeing (R46, R47, R70, R71, R108,
R109); and no request is lost, unless by a hardware reset: each request in flight, and each taken in the step, is in flight afterwards
or has been answered (R44). -/
def Obligations.PortsGoOnAgreeing : Prop :=
  ∀ s t : State, s.portsAgree → step s = .next t →
    t.portsAgree ∧
    ((∃ rest, s.pending = .hardwareReset :: rest) ∨
      (s.answers <+: t.answers ∧
        (∀ e ∈ s.inflight,
          (∃ f ∈ t.inflight, f.order = e.order ∧ f.request = e.request) ∨
            ∃ a, ({ order := e.order, initiator := e.request.initiator, form := a } : Answer) ∈ t.answers) ∧
        ∀ n, s.nextOrder ≤ n → n < t.nextOrder →
          (∃ f ∈ t.inflight, f.order = n) ∨
            ∃ i a, ({ order := n, initiator := i, form := a } : Answer) ∈ t.answers))

/-- No step leaves an answer waiting that could leave (R48). -/
def Obligations.NoAnswerWaitsNeedlessly : Prop :=
  ∀ s t : State, s.portsAgree → s.noAnswerWaits → step s = .next t → t.noAnswerWaits

/-- Every step keeps the pool at one PENDING and one COMMITTED entry for each window and line at most (R23). -/
def Obligations.EntriesStayUnique : Prop :=
  ∀ s t : State, s.entriesUnique → step s = .next t → t.entriesUnique

/-- Every step keeps an OFF window without entries and drain writes (R12), each window within its quota (R28), and the drain queue
naming COMMITTED entries of the pool (R106). -/
def Obligations.StoreLawIsKept : Prop :=
  ∀ s t : State, s.storeLawful → step s = .next t → t.storeLawful

/-- In every step the free count stays at or above the total outstanding reserve (R29), and free and owned entries add up to 512
(R21). -/
def Obligations.ReservesAreKept : Prop :=
  ∀ s t : State, s.reserveKept → step s = .next t →
    t.reserveKept ∧ t.freeCount + t.pool.countP (·.isPending) + t.pool.countP (!·.isPending) = 512

/-- Every step keeps each window's runtime record at values that R9 gives for its state (R6, R9, R11, R89). -/
def Obligations.WindowRecordsStayLawful : Prop :=
  ∀ (s t : State) (w : WindowId), (s.window w).lawful → step s = .next t → (t.window w).lawful

/-- Every step keeps both trackers' configurations in range and their values at those of their state (R125, R128 to R134). -/
def Obligations.TrackersStayLawful : Prop :=
  ∀ s t : State, (∀ tr, (s.tracker tr).lawful) → step s = .next t → ∀ tr, (t.tracker tr).lawful

/-- Every step keeps the selector's settings in range, P apart from C (R143, R144, R146), the sources that are C or P enabled, and,
while the failover enable is set, an external C in lock (R126, R150, R151). -/
def Obligations.SourcesStayLawful : Prop :=
  ∀ s t : State, s.sel.lawful → s.sourcesLawful → step s = .next t → t.sel.lawful ∧ t.sourcesLawful

/-! ### The whole machine -/

/-- The beat number rises by one at a delivered beat, which is at least the minimum gap after the one before it, and at no other
time except hardware reset (R145). -/
def Obligations.BeatsKeepTheGap : Prop :=
  ∀ s t : State, s.sel.lawful → step s = .next t →
    (t.sel.beatNumber = s.sel.beatNumber ∧ t.sel.lastDelivered = s.sel.lastDelivered) ∨
    (t.sel.beatNumber = s.sel.beatNumber + 1 ∧ t.sel.lastDelivered = some s.timeBase ∧
      ∀ d, s.sel.lastDelivered = some d → d + s.sel.gap.toNat ≤ s.timeBase) ∨
    (∃ rest, s.pending = .hardwareReset :: rest ∧ t.sel.beatNumber = 0 ∧ t.sel.lastDelivered = none)

/-- A window's commit count changes only by one, at a delivered beat that becomes its last-commit beat, with its committed set empty;
or it is set to 0 by an OPEN that succeeds, by the end of INIT or by hardware reset (R10). -/
def Obligations.CommitCountsCountCommits : Prop :=
  ∀ (s t : State) (w : WindowId), s.sel.lawful → step s = .next t →
    (t.window w).commitCount = (s.window w).commitCount ∨
    ((t.window w).commitCount = (s.window w).commitCount + 1 ∧ (t.window w).lastCommitBeat = t.sel.beatNumber ∧
      t.sel.beatNumber = s.sel.beatNumber + 1 ∧ t.sel.lastDelivered = some s.timeBase ∧ s.committedSet w = []) ∨
    ((t.window w).commitCount = 0 ∧ (t.window w).lastCommitBeat = 0 ∧
      ((t.window w = (s.window w).opened ∧ s.openResult w = .done ∧ t.port.result = some (.done, .openW)) ∨
        (t.window w = Window.cleared (s.window w).desc ∧ t.port.result = some (.done, .init) ∧ t.port.busy = false ∧
          t.pool = []) ∨
        (t.window w = Window.cleared Descriptor.reset ∧ ∃ rest, s.pending = .hardwareReset :: rest)))

/-- The descriptor of a window that is not OFF is not changed by any step but a hardware reset (R3, R4). -/
def Obligations.DescriptorsAreFixedWhileOpen : Prop :=
  ∀ (s t : State) (w : WindowId), (s.window w).state ≠ .off → step s = .next t →
    (t.window w).desc = (s.window w).desc ∨ ∃ rest, s.pending = .hardwareReset :: rest

/-- A window leaves OFF only when OPEN succeeds for it, and it becomes ACTIVE in no other way (R12, R14, R15, R18). -/
def Obligations.WindowsLeaveOffByOpenAlone : Prop :=
  ∀ (s t : State) (w : WindowId), step s = .next t →
    ((s.window w).state = .off →
      (t.window w).state = .off ∨
        (t.window w = (s.window w).opened ∧ s.openResult w = .done ∧ s.port.busy = false ∧
          s.port.argument.window = w)) ∧
    ((s.window w).state ≠ .off → (t.window w).state = .active → (s.window w).state = .active)

/-- No step issues a drain write of a line that a host-origin request waits for or is outstanding on (R111). -/
def Obligations.NoDrainWriteOnABusyLine : Prop :=
  ∀ (s t : State) (l : Line) (lanes : List (Bool × Byte)), s.sel.lawful → step s = .next t →
    BusRequest.drain l lanes ∈ t.issued.drop s.issued.length → t.lineBusy l = false

/-- While INIT is in progress nothing is held, and every window that is not OFF, the pool and the drain queue are frozen (R20, R42, R83,
R87, R121). -/
def Obligations.InitFreezesTheStore : Prop :=
  ∀ s t : State, s.initHoldsNothing → step s = .next t →
    t.initHoldsNothing ∧
    (s.port.busy = true → t.port.busy = true →
      t.pool = s.pool ∧ t.drainQueue = s.drainQueue ∧
        ∀ w, (t.window w).state = (s.window w).state ∧ ((s.window w).state ≠ .off → t.window w = s.window w))

/-- What a consumer of a window is given does not depend on the window's PENDING entries: with them removed, its READ gives the same
answers, the same entries in flight with the same captures, and the same requests to memory (R34, R35, R55). -/
def Obligations.ConsumersSeeNoPendingByte : Prop :=
  ∀ (s : State) (r : Request) (w : WindowId), r.kind = .read → s.windowOf r.line = some w →
    (s.window w).isProducer r.initiator = false → s.takesNext →
    ∃ t u, exec (.hostSideRequest r) s = .next t ∧ exec (.hostSideRequest r) (s.withoutPending w) = .next u ∧
      u.answers = t.answers ∧ u.inflight = t.inflight ∧ u.issued = t.issued ∧ u.holdQueue = t.holdQueue

/-- A request in flight keeps its request, its take time and its window, and what a READ has captured is fixed from then on (R35,
R46, R47), but that memory's ERROR discards it (R37, R66). -/
def Obligations.CapturesAreFixed : Prop :=
  ∀ s t : State, s.portsAgree → step s = .next t →
    ∀ e ∈ s.inflight, ∀ f ∈ t.inflight, f.order = e.order →
      f.request = e.request ∧ f.takeTime = e.takeTime ∧ f.window = e.window ∧
        (e.status ≠ .held →
          f.capture = if e.status = .downstream ∧ f.status = .ready .error then none else e.capture)

/-! ### Host-side requests -/

/-- Requests that are answered ERROR when they are taken change nothing but the notifications and their own entry: a malformed
request (R51), an ATOMIC in a window (R54), a foreign write (R56), and a producer write to a FAULTED window (R57). That the entry of a
malformed request records the window of the line of its address, though R43 gives such a request no line, is the model's choice (R49, log
entry 15). -/
def Obligations.RequestsAnsweredError : Prop :=
  ∀ (s : State) (r : Request), s.takesNext →
    (r.malformed = true →
      exec (.hostSideRequest r) s =
        .next ((s.notify .badRequest (.initiator r.initiator) none (some r.initiator)).answerTaken r (s.windowOf r.line)
            .error)) ∧
    (∀ w, r.malformed = false → s.noneHeldOf r.initiator → s.windowOf r.line = some w →
      (∀ op data, r.kind = .atomic op data →
        exec (.hostSideRequest r) s =
          .next ((s.notify .badRequest (.initiator r.initiator) none (some r.initiator)).answerTaken r (some w)
              .error)) ∧
      (∀ lanes, r.kind = .write lanes → (s.window w).isProducer r.initiator = false →
        exec (.hostSideRequest r) s =
          .next ((s.notify .foreignWrite (.window w) none (some r.initiator)).answerTaken r (some w) .error)) ∧
      (∀ lanes, r.kind = .write lanes → (s.window w).isProducer r.initiator = true → (s.window w).state = .faulted →
        exec (.hostSideRequest r) s = .next (s.answerTaken r (some w) .error)))

/-- While a take condition fails the request waits on the bus and nothing else changes; once the conditions hold, the request that has
waited longest is taken as one that did not wait, and a request that comes meanwhile waits behind the others (R45). That requests wait in
the order the bus presented them is the model's choice (log entry 5). -/
def Obligations.RequestsWaitOnTheBus : Prop :=
  ∀ (s : State) (r : Request),
    (24 ≤ s.inflight.length ∨ 8 ≤ s.holdQueue.length ∨ 12 ≤ s.hostCount ∨ s.port.busy = true →
      exec (.hostSideRequest r) s = .next { s with hostBus := s.hostBus ++ [r] }) ∧
    ∀ (x : Request) (rest : List Request), s.hostBus = x :: rest → ({ s with hostBus := [] } : State).takesNext →
      ∃ u, exec (.hostSideRequest x) { s with hostBus := [] } = .next u ∧
        exec (.hostSideRequest r) s = .next { u with hostBus := rest ++ [r] }

/-- A request of any kind that belongs to no window, with no older one of its initiator held, is passed to memory unchanged (R53), and
issued at once when none waits ahead of it (R109); then the drain engine applies its issue rule (R110). -/
def Obligations.PassThroughRequestsGoToMemory : Prop :=
  ∀ (s : State) (r : Request), s.takesNext → r.malformed = false → s.noneHeldOf r.initiator → s.windowOf r.line = none →
    s.waitList = [] →
    exec (.hostSideRequest r) s = .next (s.sentTaken r none .passThrough r none).drainIssue

/-- A request is held at the tail of the queue, with its deadline, and nothing else changes: with reason ORDER behind an older held
request of its initiator (R49, R52); a producer write with reason CLOSING, or FRAME_READY, and a repeated mark with reason FRAME_READY
(R8, R57, R70, R71, R79). -/
def Obligations.HeldRequestsJoinTheTail : Prop :=
  ∀ (s : State) (r : Request), s.takesNext → r.malformed = false →
    ((∃ h ∈ s.holdQueue, h.request.initiator = r.initiator ∧ h.order < s.nextOrder) →
      exec (.hostSideRequest r) s = .next (s.heldTaken r .order (s.windowOf r.line) false)) ∧
    (∀ w lanes, s.noneHeldOf r.initiator → s.windowOf r.line = some w → r.kind = .write lanes →
      (s.window w).isProducer r.initiator = true →
      ((s.window w).state = .closing →
        exec (.hostSideRequest r) s = .next (s.heldTaken r .closing (some w) false)) ∧
      ((s.window w).state = .active → (s.window w).ready = true →
        ((s.window w).tallyWrite r = false ∨ (s.window w).desc.readiness = .mark) →
        exec (.hostSideRequest r) s = .next (s.heldTaken r .frameReady (some w) false)))

/-- A producer write into an ACTIVE window whose frame is not ready, a mark that enables other bytes too among them, is merged into its
line's PENDING entry, allocated first if the line has none; it is counted, sets the ready flag of a COUNT frame at N and, if it is a
mark, of a MARK frame, and is answered OKAY (R8, R58). The entry then holds at each position the byte the write enables there, unless it
is a tally position, and else what it held (R32, R33). -/
def Obligations.StagedWritesComplete : Prop :=
  ∀ (s : State) (r : Request) (w : WindowId) (lanes : List (Bool × Byte)), s.takesNext → r.malformed = false →
    s.noneHeldOf r.initiator → s.windowOf r.line = some w → r.kind = .write lanes →
    (s.window w).isProducer r.initiator = true → (s.window w).state = .active → (s.window w).ready = false →
    ((s.window w).tallyWrite r = false ∨ ((s.window w).desc.readiness = .mark ∧ (s.window w).stagesByte r = true)) →
    s.noneWaitsForRoom w → ((s.pendingEntry w r.line).isSome = true ∨ s.allocOk w = true) →
    ∃ t, exec (.hostSideRequest r) s = .next t ∧
      t = (({ s with pool := t.pool } : State).updWindow w fun v =>
        { v with
          writeCount := min (v.writeCount + 1) (max 65535 v.writeCount)
          ready := decide ((v.desc.readiness = .count ∧
              min (v.writeCount + 1) (max 65535 v.writeCount) = v.desc.readyCount.toNat) ∨
            (s.window w).tallyWrite r = true) }).answerTaken r (some w) (.okay []) ∧
      t.pool.map (fun e => (e.window, e.line, e.gen)) =
        s.pool.map (fun e => (e.window, e.line, e.gen)) ++
          (if (s.pendingEntry w r.line).isSome then [] else [(w, r.line, Generation.pending)]) ∧
      (∀ p < 64, t.pendingByte w r.line p = ((s.window w).stagedByte r p).or (s.pendingByte w r.line p)) ∧
      (∀ (u : WindowId) (l : Line) (p : Nat), ¬ (u = w ∧ l = r.line) → t.pendingByte u l p = s.pendingByte u l p) ∧
      (∀ (u : WindowId) (l : Line) (p : Nat), t.committedByte u l p = s.committedByte u l p)

/-- A producer write that meets exhaustion, a mark that enables other bytes too among them, is counted and recorded (R61), and then held
under HOLD (R62), answered ERROR under REFUSE (R63), and under BYPASS held while the line has a COMMITTED entry (R64), else sent to
memory without its tally bytes, tearing the frame (R65). A mark marks the frame only where it is sent to memory (R8). -/
def Obligations.ExhaustionFollowsThePolicy : Prop :=
  ∀ (s : State) (r : Request) (w : WindowId) (lanes : List (Bool × Byte)), s.takesNext → r.malformed = false →
    s.noneHeldOf r.initiator → s.windowOf r.line = some w → r.kind = .write lanes →
    (s.window w).isProducer r.initiator = true → (s.window w).state = .active → (s.window w).ready = false →
    ((s.window w).tallyWrite r = false ∨ ((s.window w).desc.readiness = .mark ∧ (s.window w).stagesByte r = true)) →
    s.pendingEntry w r.line = none → s.allocOk w = false →
    ∀ c : State,
      c = (s.updWindow w fun v => { v with exhaustions := min (v.exhaustions + 1) (max 65535 v.exhaustions) }).notify
            .exhausted (.window w) (some r.line) (some r.initiator) →
      ((s.window w).desc.exhaustion = .hold →
        exec (.hostSideRequest r) s = .next (c.heldTaken r .exhausted (some w) true)) ∧
      ((s.window w).desc.exhaustion = .refuse →
        exec (.hostSideRequest r) s = .next (c.answerTaken r (some w) .error)) ∧
      ((s.window w).desc.exhaustion = .bypass → (s.committedEntry w r.line).isSome = true →
        exec (.hostSideRequest r) s = .next (c.heldTaken r .lineDraining (some w) true)) ∧
      ((s.window w).desc.exhaustion = .bypass → s.committedEntry w r.line = none → s.waitList = [] →
        ((s.window w).tallyWrite r = true → s.noneWaitsForRoom w) →
        exec (.hostSideRequest r) s =
          .next ((((if (s.window w).torn then c else c.notify .torn (.window w) none (some r.initiator)).updWindow w fun v =>
              { v with torn := true, ready := (s.window w).tallyWrite r }).sentTaken r (some w) .bypass
                ((s.window w).withoutTally r) none).drainIssue))

/-- A READ in a window changes no window and no entry: it is answered with its captured bytes when they cover it, and is else sent to
memory with them; its entry records what it captured (R35, R37, R47, R55). A byte of the view that is not memory's is, at a tally
position, that of the commit count and the last-commit beat number; elsewhere it is, for a producer, the pending byte or else the
committed byte, and for a consumer the committed byte (R7, R34). -/
def Obligations.ViewedReadsComplete : Prop :=
  ∀ (s : State) (r : Request) (w : WindowId), s.takesNext → r.malformed = false → s.noneHeldOf r.initiator →
    s.windowOf r.line = some w → r.kind = .read →
    (∀ p < 64, ∀ tally : Prop,
      (tally ↔ (s.window w).desc.tally = true ∧ 56 ≤ p ∧
        r.line.toNat + 1 = (s.window w).desc.base.toNat + (s.window w).desc.size.toNat) →
      (tally →
        s.viewByte w r.initiator r.line p =
          some (((s.window w).lastCommitBeat ++ (s.window w).commitCount).extractLsb' (8 * (p - 56)) 8)) ∧
      (¬ tally → (s.window w).isProducer r.initiator = true →
        s.viewByte w r.initiator r.line p = (s.pendingByte w r.line p).or (s.committedByte w r.line p)) ∧
      (¬ tally → (s.window w).isProducer r.initiator = false →
        s.viewByte w r.initiator r.line p = s.committedByte w r.line p)) ∧
    ∀ cap : List (Option Byte),
      cap = (List.range r.size).map (fun i => s.viewByte w r.initiator r.line (r.offset + i)) →
      ((∀ i < r.size, (s.viewByte w r.initiator r.line (r.offset + i)).isSome = true) →
        exec (.hostSideRequest r) s = .next (s.answerTaken r (some w) (.okay (cap.filterMap id)) (some cap))) ∧
      ((∃ i < r.size, s.viewByte w r.initiator r.line (r.offset + i) = none) → s.waitList = [] →
        exec (.hostSideRequest r) s = .next (s.sentTaken r (some w) .viewedRead r (some cap)).drainIssue)

/-- A READ of a window's tally word, by any initiator and in any state of the window but OFF, is answered at once with the commit count
and the last-commit beat number, least significant byte first, which its entry records as captured (R7, R47). -/
def Obligations.TallyWordReads : Prop :=
  ∀ (s : State) (r : Request) (w : WindowId), s.takesNext → s.noneHeldOf r.initiator → s.windowOf r.line = some w →
    r.kind = .read → r.size = 8 → r.offset = 56 → (s.window w).desc.tally = true →
    r.line.toNat + 1 = (s.window w).desc.base.toNat + (s.window w).desc.size.toNat →
    ∀ word : List Byte,
      word =
        [(s.window w).commitCount.extractLsb' 0 8, (s.window w).commitCount.extractLsb' 8 8,
         (s.window w).commitCount.extractLsb' 16 8, (s.window w).commitCount.extractLsb' 24 8,
         (s.window w).lastCommitBeat.extractLsb' 0 8, (s.window w).lastCommitBeat.extractLsb' 8 8,
         (s.window w).lastCommitBeat.extractLsb' 16 8, (s.window w).lastCommitBeat.extractLsb' 24 8] →
      exec (.hostSideRequest r) s = .next (s.answerTaken r (some w) (.okay word) (some (word.map some)))

/-- A producer's tally write to an ACTIVE window is answered ERROR with BAD_REQUEST in ANY and COUNT mode; in MARK mode, not ready, a mark
that enables tally bytes alone sets the ready flag and is answered OKAY, staging nothing (R8, R60). -/
def Obligations.TallyWrites : Prop :=
  ∀ (s : State) (r : Request) (w : WindowId) (lanes : List (Bool × Byte)), s.takesNext → r.malformed = false →
    s.noneHeldOf r.initiator → s.windowOf r.line = some w → r.kind = .write lanes →
    (s.window w).isProducer r.initiator = true → (s.window w).state = .active → (s.window w).tallyWrite r = true →
    ((s.window w).desc.readiness ≠ .mark →
      exec (.hostSideRequest r) s =
        .next ((s.notify .badRequest (.initiator r.initiator) none (some r.initiator)).answerTaken r (some w)
            .error)) ∧
    ((s.window w).desc.readiness = .mark → (s.window w).ready = false → (s.window w).stagesByte r = false →
      s.noneWaitsForRoom w →
      exec (.hostSideRequest r) s =
        .next ((s.updWindow w fun v => { v with ready := true }).answerTaken r (some w) (.okay [])))

/-- A held request whose deadline is reached leaves the queue, answered ERROR; the window it names counts one hold timeout and is else
unchanged, as all other windows are; and HOLD_TIMEOUT is recorded (R80). Where each ORDER request of its initiator behind it still stands
behind an older one, that is all (R72). The oldest request of its initiator then left, if it is held ORDER, is classified afresh (R73 to
R76): passed through to memory; a READ in a window captured now, and answered with the captured bytes or sent to memory with them (R36,
R55); an ATOMIC in a window, a foreign write and a producer write to a FAULTED window answered ERROR (R54, R56, R57); a producer write held
again in its place with reason CLOSING or FRAME_READY, or staged and answered OKAY (R57, R58). -/
def Obligations.HeldRequestsTimeOut : Prop :=
  ∀ (s timed : State) (h : Held) (pre post : List Held), s.holdQueue = pre ++ h :: post → h.deadline ≤ s.timeBase →
    (s.holdQueue.map (·.order)).Nodup →
    timed =
      { s.determine h.order h.request.initiator .error with
        holdQueue := pre ++ post
        windows :=
          (match h.window with
           | some w =>
             s.updWindow w fun v => { v with holdTimeouts := min (v.holdTimeouts + 1) (max 65535 v.holdTimeouts) }
           | none => s).windows
        notif :=
          (s.notify .holdTimeout (.initiator h.request.initiator) (some h.line) (some h.request.initiator)).notif } →
    (∃ t, exec (.holdTimeout h.order) s = .next t ∧ t.hasLeft h.order ∧ timed.answers <+: t.answers ∧
      (∀ w, (t.window w).scheduled = (timed.window w).scheduled) ∧
      (s.notif.mask.getLsbD 7 = true →
        (∃ x ∈ t.notif.queue, x.kind = .holdTimeout ∧ x.subject = .initiator h.request.initiator) ∨
          s.notif.overflow < t.notif.overflow ∨ 65535 ≤ t.notif.overflow)) ∧
    ((∀ g ∈ pre ++ post, g.request.initiator = h.request.initiator → g.reason = .order → h.order < g.order →
        ∃ k ∈ pre ++ post, k.request.initiator = h.request.initiator ∧ k.order < g.order) →
      exec (.holdTimeout h.order) s = .next timed) ∧
    ∀ (g : Held) (mid rest : List Held), s.portsAgree → post = mid ++ g :: rest → g.reason = .order →
      g.request.initiator = h.request.initiator →
      (∀ k ∈ pre ++ mid, k.request.initiator ≠ h.request.initiator) →
      (∀ k ∈ rest, k.request.initiator = h.request.initiator → k.reason ≠ .order) →
      (s.windowOf g.request.line = none → s.waitList = [] → s.hostCount < 12 →
        exec (.holdTimeout h.order) s =
          .next ({ timed with
            holdQueue := pre ++ mid ++ rest
            inflight := timed.inflight.map fun e =>
              if e.order = g.order then { e with status := .downstream, capture := none } else e
            outstanding := timed.outstanding ++ [.host { order := g.order, purpose := .passThrough, request := g.request }]
            issued := timed.issued ++ [.host g.request] } : State).drainIssue) ∧
      ∀ (w : WindowId) (left : Option (List (Option Byte)) → State), s.windowOf g.request.line = some w →
        (∀ cap, left cap =
          { timed with
            holdQueue := pre ++ mid ++ rest
            inflight := timed.inflight.map fun e => if e.order = g.order then { e with capture := cap } else e }) →
        (∀ cap, g.request.kind = .read →
          cap = (List.range g.request.size).map
            (fun i => s.viewByte w g.request.initiator g.request.line (g.request.offset + i)) →
          ((∀ c ∈ cap, c.isSome = true) →
            exec (.holdTimeout h.order) s =
              .next ((left (some cap)).determine g.order g.request.initiator (.okay (cap.filterMap id)))) ∧
          (none ∈ cap → s.waitList = [] → s.hostCount < 12 →
            exec (.holdTimeout h.order) s =
              .next ({ left (some cap) with
                inflight := (left (some cap)).inflight.map fun e =>
                  if e.order = g.order then { e with status := .downstream } else e
                outstanding :=
                  timed.outstanding ++ [.host { order := g.order, purpose := .viewedRead, request := g.request }]
                issued := timed.issued ++ [.host g.request] } : State).drainIssue)) ∧
        (∀ op data, g.request.kind = .atomic op data →
          exec (.holdTimeout h.order) s =
            .next (((left none).notify .badRequest (.initiator g.request.initiator) none (some g.request.initiator)).determine
              g.order g.request.initiator .error)) ∧
        ∀ lanes, g.request.kind = .write lanes →
          ((s.window w).isProducer g.request.initiator = false →
            exec (.holdTimeout h.order) s =
              .next (((left none).notify .foreignWrite (.window w) none (some g.request.initiator)).determine g.order
                g.request.initiator .error)) ∧
          ((s.window w).isProducer g.request.initiator = true →
            ((s.window w).state = .faulted →
              exec (.holdTimeout h.order) s = .next ((left none).determine g.order g.request.initiator .error)) ∧
            (∀ reason : HoldReason,
              ((s.window w).state = .closing ∧ reason = .closing) ∨
                ((s.window w).state = .active ∧ (s.window w).ready = true ∧ (s.window w).tallyWrite g.request = false ∧
                  reason = .frameReady) →
              exec (.holdTimeout h.order) s =
                .next { timed with
                  holdQueue :=
                    pre ++ mid ++ { g with reason := reason, window := some w, line := g.request.line } :: rest }) ∧
            ((s.window w).state = .active → (s.window w).ready = false → (s.window w).tallyWrite g.request = false →
              ((s.pendingEntry w g.request.line).isSome = true ∨ s.allocOk w = true) →
              ∃ t, exec (.holdTimeout h.order) s = .next t ∧ t.hasLeft g.order ∧ g.request.line ∈ t.pendingLines w ∧
                t.answered g.order g.request.initiator (.okay [])))

/-! ### Answers from memory -/

/-- Memory's answer to a host-origin request determines the answer of the request it serves, by R66's table, and ERROR discards the bytes
that a READ captured (R37, R66); then waiting requests are issued, and the drain engine applies its rule (R113). While INIT is in progress the same happens but for the drain engine's rule (R121,
R166); and INIT ends as part of it when nothing is left in flight and nothing outstanding (R167, R168). -/
def Obligations.HostOriginCompletions : Prop :=
  ∀ (s : State) (n : Nat) (a : MemAnswer) (d : HostDown) (pre post : List Outstanding) (form : AnswerForm),
    s.outstanding = pre ++ .host d :: post → (∀ o ∈ pre, o.serves n = false) → d.order = n →
    ((a = .error ∧ form = .error) ∨
      ∃ data, a = .okay data ∧
        ((∃ lanes, d.request.kind = .write lanes ∧ form = .okay []) ∨
         (∃ op x, d.request.kind = .atomic op x ∧ form = .okay data) ∨
         (d.request.kind = .read ∧ (s.inflightAt n).bind (·.capture) = none ∧ data.length = d.request.size ∧
            form = .okay data) ∨
         (∃ cap, d.request.kind = .read ∧ (s.inflightAt n).bind (·.capture) = some cap ∧ cap.length = data.length ∧
            form = .okay (cap.zipWith (fun c m => c.getD m) data)))) →
    ∀ u : State,
      u = (({ s with
            outstanding := pre ++ post
            inflight :=
              s.inflight.map fun e => if a = .error ∧ e.order = n then { e with capture := none } else e } : State).determine
              n d.request.initiator form).issueHost →
      (s.port.busy = false → exec (.hostOriginCompletion n a) s = .next u.drainIssue) ∧
      (s.port.busy = true → ¬ (u.inflight = [] ∧ u.outstanding = []) →
        exec (.hostOriginCompletion n a) s = .next u) ∧
      (s.port.busy = true → u.inflight = [] → u.outstanding = [] →
        ∃ t, exec (.hostOriginCompletion n a) s = .next t ∧ t.isEndOf u)

/-- An answer that matches no entry of the outstanding table is ignored (R112). -/
def Obligations.UnmatchedAnswersAreIgnored : Prop :=
  ∀ (s : State) (a : MemAnswer),
    exec (.unmatchedMemoryAnswer a) s = .next s ∧
    (∀ n, (∀ o ∈ s.outstanding, o.serves n = false) → exec (.hostOriginCompletion n a) s = .next s) ∧
    (∀ l x, (∀ o ∈ s.outstanding, o.drains l = false) → exec (.drainCompletion l x) s = .next s)

/-- A drain write that completes OKAY frees its entry, the committed sets otherwise keeping their lines; its window becomes OFF if it was
CLOSING and owns nothing more, with WINDOW_OFF recorded and its counters and commit record kept, and keeps its state otherwise (R9, R17,
R39, R114); then the issue rule is applied to the drain queue (R110). The oldest held request, if the free gives an EXHAUSTED or LINE_DRAINING write of the window its room, is staged and
answered OKAY, and, if it was held CLOSING for the window now OFF, is passed through to memory (R40, R74 to R77). -/
def Obligations.DrainWritesComplete : Prop :=
  ∀ (s : State) (l : Line) (w : WindowId) (pre post : List Outstanding) (off : Bool),
    s.outstanding = pre ++ .drain ⟨w, l⟩ :: post → (∀ o ∈ pre, o.drains l = false) → s.port.busy = false →
    (s.committedEntry w l).isSome = true →
    (off = true ↔ (s.window w).state = .closing ∧ (∀ e ∈ s.pool, e.window = w → e.isCommittedOf w l = true) ∧
      ∀ o ∈ pre ++ post, o.isDrainOf w = false) →
    ∃ t, exec (.drainCompletion l .okay) s = .next t ∧
      t.committedLines w = (s.committedLines w).filter (· ≠ l) ∧
      (∀ u, u ≠ w →
        t.committedLines u = s.committedLines u ∧ (t.window u).scheduled = (s.window u).scheduled) ∧
      (off = true → t.window w = (s.window w).shut) ∧
      (off = false → s.windowBecomes t w (s.window w)) ∧
      t.drainSettled ∧
      (s.holdQueue = [] →
        State.issuesFrom { s with outstanding := pre ++ post } t (s.drainQueue.filter fun d => d ≠ ⟨w, l⟩) ∧
        t.notif = (if off then s.notify .windowOff (.window w) none none else s).notif ∧
          t.pendingList w = s.pendingList w) ∧
      ∀ (h : Held) (q : List Held), s.holdQueue = h :: q → s.portsAgree →
        (s.reserveKept → s.inUse w ≤ (s.window w).desc.quota.toNat →
          (h.reason = .exhausted ∨ (h.reason = .lineDraining ∧ h.line = l)) → s.heldWrite h w →
          (s.window w).state = .active → (s.window w).ready = false →
          t.hasLeft h.order ∧ h.line ∈ t.pendingLines w ∧ t.answered h.order h.request.initiator (.okay [])) ∧
        (off = true → h.reason = .closing → h.window = some w →
          (∀ u, u ≠ w → (s.window u).state = .off ∨ (s.window u).covers h.request.line = false) →
          s.waitList = [] → s.hostCount < 12 →
          t.hasLeft h.order ∧
            Outstanding.host { order := h.order, purpose := .passThrough, request := h.request } ∈ t.outstanding ∧
            BusRequest.host h.request ∈ t.issued)

/-- At its first error an entry keeps its bytes, meets the error, and returns to the head of the drain queue; no window, no hold and no
notification changes (R106, R115). The issue rule is then applied to the queue (R110), so that the entry is issued again at once unless its
line is busy. Where a CLOSE(w, DISCARD) of its FAULTED window comes together with the completion, the entry is QUEUED, the issue rule having
passed over the window's entries, and the CLOSE, the next step, frees it (R120, second row). That a CLOSE directly behind the completion comes
together with it, and that the rule passes over all of the window's entries, are the model's choice (log entry 31). -/
def Obligations.FirstDrainErrors : Prop :=
  ∀ (s : State) (l : Line) (w : WindowId) (pre post : List Outstanding) (e : Entry), s.withinLimits →
    s.outstanding = pre ++ .drain ⟨w, l⟩ :: post → (∀ o ∈ pre, o.drains l = false) → s.port.busy = false →
    s.committedEntry w l = some e → e.errorMet = false →
    ∃ t, exec (.drainCompletion l .error) s = .next t ∧
      t.windows = s.windows ∧ t.holdQueue = s.holdQueue ∧ t.notif = s.notif ∧ t.inflight = s.inflight ∧
      (s.closesNext w = false →
        State.issuesFrom { s with outstanding := pre ++ post } t (⟨w, l⟩ :: s.drainQueue) ∧ t.drainSettled ∧
        (s.lineBusy l = false →
          t.committedEntry w l = some { e with gen := .committed .issued true } ∧ .drain ⟨w, l⟩ ∈ t.outstanding ∧
            BusRequest.drain l (e.cells.map fun c => (c.isSome, c.getD 0)) ∈ t.issued.drop s.issued.length) ∧
        (s.lineBusy l = true →
          t.committedEntry w l = some { e with gen := .committed .queued true } ∧ t.drainQueue.head? = some ⟨w, l⟩)) ∧
      (s.closesNext w = true →
        t.committedEntry w l = some { e with gen := .committed .queued true } ∧
        t.drainQueue.filter (·.window == w) = ⟨w, l⟩ :: s.drainQueue.filter (·.window == w) ∧
        (∀ u : State, u = { t with drainQueue := t.drainQueue.filter (·.window != w) } →
          State.issuesFrom { s with outstanding := pre ++ post } u (s.drainQueue.filter (·.window != w)) ∧ u.drainSettled) ∧
        ∃ u, step t = .next u ∧ u.port = { s.port with result := some (.done, .closeW) } ∧
          u.committedEntry w l = none ∧ ⟨w, l⟩ ∉ u.drainQueue)

/-- At its second error an entry is dropped: it leaves the committed set, its window counts a drain fault and is FAULTED, its frame no
longer ready or due and its close abandoned, and DRAIN_FAULT is recorded (R18, R116, R117); then the issue rule is applied to the drain
queue (R110). The oldest held request, if it is a producer
write held CLOSING, FRAME_READY or EXHAUSTED for the window that becomes FAULTED, is answered ERROR (R18, R74 to R76). -/
def Obligations.SecondDrainErrors : Prop :=
  ∀ (s : State) (l : Line) (w : WindowId) (pre post : List Outstanding) (e : Entry),
    s.outstanding = pre ++ .drain ⟨w, l⟩ :: post → (∀ o ∈ pre, o.drains l = false) → s.port.busy = false →
    s.committedEntry w l = some e → e.errorMet = true → (s.window w).state ≠ .off →
    ∃ t, exec (.drainCompletion l .error) s = .next t ∧
      t.committedLines w = (s.committedLines w).filter (· ≠ l) ∧ t.pendingList w = s.pendingList w ∧
      t.window w =
        (if (s.window w).state = .faulted then
          { s.window w with drainFaults := min ((s.window w).drainFaults + 1) (max 65535 (s.window w).drainFaults) }
        else
          { s.window w with
            drainFaults := min ((s.window w).drainFaults + 1) (max 65535 (s.window w).drainFaults)
            state := .faulted, closeMode := none, ready := false, due := false }) ∧
      (∀ u, u ≠ w → (t.window u).state = (s.window u).state ∧ (t.window u).drainFaults = (s.window u).drainFaults) ∧
      t.drainSettled ∧
      (s.holdQueue = [] →
        State.issuesFrom { s with outstanding := pre ++ post } t (s.drainQueue.filter fun d => d ≠ ⟨w, l⟩) ∧
        t.notif = (s.notify .drainFault (.window w) (some l) none).notif) ∧
      ∀ (h : Held) (q : List Held), s.holdQueue = h :: q → s.portsAgree →
        (h.reason = .closing ∨ h.reason = .frameReady ∨ h.reason = .exhausted) → s.heldWrite h w →
        (s.window w).state ≠ .faulted →
        t.hasLeft h.order ∧ t.answered h.order h.request.initiator .error

/-- While INIT is in progress a drain completion, whatever its answer, releases its slot and has no other effect; if the end test then
passes, INIT ends as part of it (R121, R167, R168). -/
def Obligations.DrainCompletionsDuringInit : Prop :=
  ∀ (s : State) (l : Line) (w : WindowId) (a : DrainAnswer) (pre post : List Outstanding),
    s.outstanding = pre ++ .drain ⟨w, l⟩ :: post → (∀ o ∈ pre, o.drains l = false) → s.port.busy = true →
    (¬ (s.inflight = [] ∧ pre ++ post = []) →
      exec (.drainCompletion l a) s = .next { s with outstanding := pre ++ post }) ∧
    (s.inflight = [] → pre ++ post = [] →
      exec (.drainCompletion l a) s = .next ({ s with outstanding := [] } : State).endInit)

/-! ### Trackers and the selector -/

/-- An edge changes nothing at a DISABLED tracker (R124); at a SEEKING tracker it is the first edge of a run and offers no candidate (R130). -/
def Obligations.EdgesAtAnIdleTracker : Prop :=
  ∀ (s : State) (tr : BeatLine),
    ((s.tracker tr).state = .disabled → exec (.beatEdge tr) s = .next s) ∧
    ((s.tracker tr).state = .seeking →
      exec (.beatEdge tr) s =
        .next (s.setTracker tr
          { s.tracker tr with state := .qualifying, goodCount := 1, refPeriod := none, lastEdge := some s.timeBase }))

/-- An edge at a QUALIFYING tracker is judged by its interval: it gives the reference period, is good, restarts the run, or completes
the lock, with LOCK_GAINED, and offers no candidate (R131, R132, R137). With Q = 2 the second edge of a run locks, and its last edge time
is then absent, where R131 says that it becomes the edge time: the model follows R132 (the model's choice, log entry 11). -/
def Obligations.EdgesAtAQualifyingTracker : Prop :=
  ∀ (s : State) (tr : BeatLine) (v : Tracker) (l interval : Nat), s.tracker tr = v → v.state = .qualifying →
    v.lastEdge = some l → s.timeBase = l + interval →
    ∀ good : Option (Nat × Nat),
      good =
        (match v.refPeriod with
         | none => if 100 ≤ interval ∧ interval ≤ 1000000 then some (interval, 2) else none
         | some p =>
           if p ≤ interval + v.tolerance.toNat ∧ interval ≤ p + v.tolerance.toNat then some (p, v.goodCount + 1)
           else none) →
      (good = none →
        exec (.beatEdge tr) s =
          .next (s.setTracker tr { v with goodCount := 1, refPeriod := none, lastEdge := some s.timeBase })) ∧
      (∀ p g, good = some (p, g) → g < v.qualCount.toNat →
        exec (.beatEdge tr) s =
          .next (s.setTracker tr { v with goodCount := g, refPeriod := some p, lastEdge := some s.timeBase })) ∧
      (∀ p g, good = some (p, g) → v.qualCount.toNat ≤ g →
        exec (.beatEdge tr) s =
          .next { s.setTracker tr
              { v with
                state := .locked, refPeriod := some p, expected := some (s.timeBase + p), missedCount := 0,
                goodCount := 0, lastEdge := none } with
            notif := (s.notify .lockGained (.source tr.source) none none).notif })

/-- An edge at a tracker that holds lock: early, it only counts; accepted, the expected time moves on, the lock is LOCKED, and a candidate
is offered (R133, R136); where a beat would change no window, nothing else changes but the selector and, at a switch, SOURCE_SWITCHED
recorded (R144, R145, R148). -/
def Obligations.EdgesAtALockedTracker : Prop :=
  ∀ (s : State) (tr : BeatLine) (v : Tracker) (e p : Nat), s.tracker tr = v →
    (v.state = .locked ∨ v.state = .holdover) → v.expected = some e → v.refPeriod = some p →
    s.timeBase ≤ e + v.tolerance.toNat →
    (s.timeBase + v.tolerance.toNat < e →
      exec (.beatEdge tr) s =
        .next (s.setTracker tr { v with earlyCount := min (v.earlyCount + 1) (max 65535 v.earlyCount) })) ∧
    (e ≤ s.timeBase + v.tolerance.toNat →
      ∃ t, exec (.beatEdge tr) s = .next t ∧
        t.tracker tr = { v with state := .locked, missedCount := 0, expected := some (s.timeBase + p) } ∧
        t.sel = s.sel.afterCandidate tr.source s.timeBase ∧
        (t.sel = s.sel → t = s.setTracker tr (t.tracker tr)) ∧
        (s.noFrame → t = { s.setTracker tr (t.tracker tr) with sel := t.sel, notif := (s.afterBeat tr.source).notif }))

/-- A miss that is due: below the limit the tracker coasts in HOLDOVER and offers a candidate; at the limit it loses lock with LOCK_LOST, and
the selector fails over from it if it was C and the failover enable is set (R134, R150). Where the candidate's beat would change no
window, nothing else changes but the selector and, at a switch, SOURCE_SWITCHED recorded (R136, R144, R145, R148). -/
def Obligations.TrackerMisses : Prop :=
  ∀ (s : State) (tr : BeatLine) (v : Tracker) (e p : Nat), s.tracker tr = v →
    (v.state = .locked ∨ v.state = .holdover) → v.expected = some e → v.refPeriod = some p →
    e + v.tolerance.toNat ≤ s.timeBase →
    (v.missedCount + 1 < v.missLimit.toNat →
      ∃ t, exec (.trackerMiss tr) s = .next t ∧
        t.tracker tr = { v with state := .holdover, missedCount := v.missedCount + 1, expected := some (e + p) } ∧
        t.sel = s.sel.afterCandidate tr.source s.timeBase ∧
        (t.sel = s.sel → t = s.setTracker tr (t.tracker tr)) ∧
        (s.noFrame →
          t = { s.setTracker tr (t.tracker tr) with sel := t.sel, notif := (s.afterBeat tr.source).notif })) ∧
    (v.missLimit.toNat ≤ v.missedCount + 1 →
      ∀ lost : State,
        lost = { s.setTracker tr { v with state := .seeking, refPeriod := none, expected := none, missedCount := 0 } with
                 notif := (s.notify .lockLost (.source tr.source) none none).notif } →
        (¬ (s.sel.current = tr.source ∧ s.sel.failoverEnable = true) → exec (.trackerMiss tr) s = .next lost) ∧
        (∀ d, s.sel.current = tr.source → s.sel.failoverEnable = true → s.sel.lastDelivered = some d →
          exec (.trackerMiss tr) s =
            .next { lost with
              sel :=
                { s.sel with
                  current := .internal
                  target := if s.sel.target = some .internal then none else s.sel.target
                  nextTime := d + s.sel.period.toNat }
              notif := (lost.notify .failover (.source tr.source) none none).notif }))

/-- At its next time the generator schedules the next candidate one period later and offers an INTERNAL candidate (R142 to R145, R148);
where its beat would change no window, nothing else changes but the selector and, at a switch, SOURCE_SWITCHED recorded. -/
def Obligations.InternalCandidates : Prop :=
  ∀ s : State, s.sel.nextTime ≤ s.timeBase →
    ∃ t, exec .internalCandidate s = .next t ∧
      t.sel = ({ s.sel with nextTime := s.timeBase + s.sel.period.toNat } : Selector).afterCandidate .internal s.timeBase ∧
      t.timeBase = s.timeBase ∧ t.trackerA = s.trackerA ∧ t.trackerB = s.trackerB ∧ t.port = s.port ∧
      (t.sel.beatNumber = s.sel.beatNumber → t = { s with sel := t.sel }) ∧
      (s.noFrame → t = { s with sel := t.sel, notif := (s.afterBeat .internal).notif })

/-! ### Windows at a beat -/

/-- What a delivered beat, of whatever source, does to an ACTIVE window: it counts down (R89); when due, an idle frame's period ends
(R91), a ready frame commits (R92) or slips behind its committed set (R95), and a frame neither idle nor ready is discarded or carried
(R96, R97); with the record each makes. Where requests are held, their re-examination may change four fields of the window
afterwards (`State.windowBecomes`); at a commit the oldest held request, a producer write held FRAME_READY for the window, is staged into the
new frame and answered OKAY when there is room (R74 to R76, R88). The lines of the frames that commit join the tail of the drain queue,
window by window in pending-list order, and the issue rule is applied (R88, R93, R106, R110). -/
def Obligations.ActiveWindowsAtABeat : Prop :=
  ∀ (s : State) (c : Instr) (x : Source) (w : WindowId) (v : Window), s.beatComesBy c x → s.window w = v →
    v.state = .active →
    ∃ t, exec c s = .next t ∧ t.sel.beatNumber = s.sel.beatNumber + 1 ∧
      (v.due = false → 2 ≤ v.countdown →
        s.windowBecomes t w { v with countdown := v.countdown - 1 } ∧ t.committedLines w = s.committedLines w ∧
          s.beatRecords t x w none) ∧
      (v.due = true ∨ v.countdown = 1 →
        (s.pendingLines w = [] → v.ready = false →
          s.windowBecomes t w { v with countdown := 2 ^ v.desc.interval.toNat, due := false } ∧
            t.committedLines w = s.committedLines w ∧ s.beatRecords t x w none) ∧
        ((v.desc.readiness = .any ∧ s.pendingLines w ≠ []) ∨ (v.desc.readiness ≠ .any ∧ v.ready = true) →
          (s.committedLines w = [] →
            s.windowBecomes t w
                { v with
                  countdown := 2 ^ v.desc.interval.toNat, due := false, writeCount := 0, ready := false, torn := false,
                  lateNoted := false, slipNoted := false, commitCount := v.commitCount + 1,
                  lastCommitBeat := s.sel.beatNumber + 1 } ∧
              t.committedLines w = s.pendingLines w ∧ (s.holdQueue = [] → t.pendingLines w = []) ∧
              (s.pendingLines w ≠ [] →
                t.drainSettled ∧ (s.holdQueue = [] → s.issuesFrom t (s.drainQueue ++ s.framesCommitted t))) ∧
              s.beatRecords t x w (if v.desc.notifyCommit then some .commit else none) ∧
              ∀ (h : Held) (q : List Held), s.holdQueue = h :: q → s.portsAgree → h.reason = .frameReady →
                s.heldWrite h w → s.allocOk w = true →
                t.hasLeft h.order ∧ (t.pendingLines w).head? = some h.line ∧
                  t.answered h.order h.request.initiator (.okay [])) ∧
          (s.committedLines w ≠ [] →
            s.windowBecomes t w
                { v with
                  countdown := if v.due then v.countdown else 0, due := true, slipNoted := true,
                  slips := if v.slipNoted then v.slips else min (v.slips + 1) (max 65535 v.slips) } ∧
              t.committedLines w = s.committedLines w ∧
              s.beatRecords t x w (if v.slipNoted then none else some .slip))) ∧
        (s.pendingLines w ≠ [] → v.ready = false → v.desc.readiness ≠ .any →
          t.committedLines w = s.committedLines w ∧
          (v.desc.late = .discard →
            s.windowBecomes t w
                { v with
                  countdown := 2 ^ v.desc.interval.toNat, due := false, writeCount := 0, ready := false, torn := false,
                  lateNoted := false, lateEvents := min (v.lateEvents + 1) (max 65535 v.lateEvents) } ∧
              (s.holdQueue = [] → t.pendingLines w = []) ∧ s.beatRecords t x w (some .lateDiscard)) ∧
          (v.desc.late = .carry →
            s.windowBecomes t w
                { v with
                  countdown := if v.due then v.countdown else 0, due := true, lateNoted := true,
                  lateEvents := if v.lateNoted then v.lateEvents else min (v.lateEvents + 1) (max 65535 v.lateEvents) } ∧
              (s.holdQueue = [] → t.pendingLines w = s.pendingLines w) ∧
              s.beatRecords t x w (if v.lateNoted then none else some .lateCarry))))

/-- What a delivered beat, of whatever source, does to the other windows: OFF, FAULTED and CLOSING in DISCARD mode are left unchanged (R86,
R99); CLOSING in COMMIT mode makes its final commit once the committed set is empty, counts down or slips behind it until then, and is left
unchanged when nothing is pending (R98); with the record each makes. The final commit's lines join the tail of the drain queue in
pending-list order, and the issue rule is applied (R88, R93, R106, R110). -/
def Obligations.OtherWindowsAtABeat : Prop :=
  ∀ (s : State) (c : Instr) (x : Source) (w : WindowId) (v : Window), s.beatComesBy c x → s.window w = v →
    ∃ t, exec c s = .next t ∧
      (v.state = .off ∨ v.state = .faulted ∨ (v.state = .closing ∧ v.closeMode = some .discard) ∨
          (v.state = .closing ∧ v.closeMode = some .commit ∧ s.pendingLines w = []) →
        t.window w = v ∧ t.committedLines w = s.committedLines w ∧ t.pendingLines w = s.pendingLines w ∧
          s.beatRecords t x w none) ∧
      (v.state = .closing → v.closeMode = some .commit → s.pendingLines w ≠ [] → s.committedLines w = [] →
        t.window w =
            { v with
              countdown := 2 ^ v.desc.interval.toNat, due := false, writeCount := 0, ready := false, torn := false,
              lateNoted := false, slipNoted := false, commitCount := v.commitCount + 1,
              lastCommitBeat := s.sel.beatNumber + 1 } ∧
          t.committedLines w = s.pendingLines w ∧ t.pendingLines w = [] ∧ t.drainSettled ∧
          (s.holdQueue = [] → s.issuesFrom t (s.drainQueue ++ s.framesCommitted t)) ∧
          s.beatRecords t x w (if v.desc.notifyCommit then some .commit else none)) ∧
      (v.state = .closing → v.closeMode = some .commit → s.pendingLines w ≠ [] → s.committedLines w ≠ [] →
        t.committedLines w = s.committedLines w ∧ t.pendingLines w = s.pendingLines w ∧
        (v.due = false → 2 ≤ v.countdown →
          t.window w = { v with countdown := v.countdown - 1 } ∧ s.beatRecords t x w none) ∧
        (v.due = true ∨ v.countdown = 1 →
          t.window w =
              { v with
                countdown := if v.due then v.countdown else 0, due := true, slipNoted := true,
                slips := if v.slipNoted then v.slips else min (v.slips + 1) (max 65535 v.slips) } ∧
            s.beatRecords t x w (if v.slipNoted then none else some .slip)))

/-! ### Commands of the slot -/

/-- OPEN of the argument's window makes R13's checks in their order: with all passed, the window takes the values of R9's column and
nothing else changes but the result (R14); the first that fails gives the result, and nothing else changes. -/
def Obligations.OpenMakesItsChecks : Prop :=
  ∀ (s : State) (w : WindowId) (v : Window), s.port.busy = false → s.port.argument.window = w → s.window w = v →
    ∀ c : ResultCode,
      c =
        (if v.state ≠ .off then .refusedState
         else if ¬ (1 ≤ v.desc.size.toNat ∧ v.desc.size.toNat ≤ 4096 ∧ 1 ≤ v.desc.quota.toNat ∧
             v.desc.quota.toNat ≤ 512 ∧ v.desc.reserve.toNat ≤ v.desc.quota.toNat ∧
             (v.desc.readiness = .count → 1 ≤ v.desc.readyCount.toNat)) then .refusedConfig
         else if v.desc.producers = 0 then .refusedConfig
         else if v.desc.readiness = .mark ∧ v.desc.tally = false then .refusedConfig
         else if 2 ^ 48 < v.desc.base.toNat * 64 + v.desc.size.toNat * 64 then .refusedConfig
         else if ∃ u, (s.window u).state ≠ .off ∧
             v.desc.base.toNat < (s.window u).desc.base.toNat + (s.window u).desc.size.toNat ∧
               (s.window u).desc.base.toNat < v.desc.base.toNat + v.desc.size.toNat then .refusedConfig
         else if s.freeCount < s.totalReserve + v.desc.reserve.toNat then .refusedRoom
         else .done) →
      exec .openWindow s =
        .next { s.updWindow w (fun v =>
            if c = .done then
              { v with
                state := .active, closeMode := none, countdown := 2 ^ v.desc.interval.toNat, due := false, ready := false,
                writeCount := 0, torn := false, lateNoted := false, slipNoted := false, commitCount := 0,
                lastCommitBeat := 0, lateEvents := 0, slips := 0, exhaustions := 0, holdTimeouts := 0, drainFaults := 0 }
            else v) with
          port := { s.port with result := some (c, .openW) } }

/-- CLOSE of the argument's window, by R15's table: refused in OFF, and with COMMIT in FAULTED; no change where it is closing already in
that mode, or in DISCARD mode; otherwise CLOSING with the mode, or OFF at once, with WINDOW_OFF recorded, when it owns nothing (R17), the
frame discarded in DISCARD mode with its write count and its flags (R16); the rest of its record is kept (R9). The oldest held request, a
producer write held FRAME_READY or EXHAUSTED for a window that is then CLOSING, is held again in its place with reason CLOSING (R15,
R73). -/
def Obligations.CloseFollowsTheTable : Prop :=
  ∀ (s : State) (w : WindowId) (m : CloseMode), s.port.busy = false → s.port.argument.window = w →
    s.port.argument.mode = m →
    ((s.window w).state = .off ∨ ((s.window w).state = .faulted ∧ m = .commit) →
      exec .closeWindow s = .next { s with port := { s.port with result := some (.refusedState, .closeW) } }) ∧
    ((s.window w).state = .closing → m = .commit ∨ (s.window w).closeMode = some .discard →
      exec .closeWindow s = .next { s with port := { s.port with result := some (.done, .closeW) } }) ∧
    ((s.window w).state = .active ∨ ((s.window w).state = .closing ∧ (s.window w).closeMode = some .commit ∧ m = .discard) ∨
        ((s.window w).state = .faulted ∧ m = .discard) →
      ∃ t, exec .closeWindow s = .next t ∧ t.port = { s.port with result := some (.done, .closeW) } ∧
        t.pendingList w = (if m = .discard then [] else s.pendingList w) ∧
        t.committedLines w =
          ((s.committedSet w).filter fun e => !(m == .discard && (s.window w).state == .faulted && e.isQueued)).map
            (·.line) ∧
        (∀ u, u ≠ w →
          (t.window u).scheduled = (s.window u).scheduled ∧ t.committedLines u = s.committedLines u) ∧
        ∀ (kept : Window) (off : Bool),
          kept =
            (if m = .discard then
              { s.window w with writeCount := 0, ready := false, torn := false, lateNoted := false, slipNoted := false }
            else s.window w) →
          (off = true ↔ t.pendingList w = [] ∧ t.committedLines w = [] ∧ ∀ o ∈ s.outstanding, o.isDrainOf w = false) →
          (off = true → t.window w = kept.shut) ∧
          (off = false → t.window w = { kept with state := .closing, closeMode := some m }) ∧
          (s.holdQueue = [] → t.notif = (if off then s.notify .windowOff (.window w) none none else s).notif) ∧
          ∀ (h : Held) (q : List Held), s.holdQueue = h :: q → s.portsAgree → off = false →
            (h.reason = .frameReady ∨ h.reason = .exhausted) → s.heldWrite h w →
            t.holdQueue.head? = some { h with reason := .closing })

/-- SELECT_SOURCE of the argument's source, by R147's table; nothing else changes. -/
def Obligations.SelectSourceFollowsTheTable : Prop :=
  ∀ (s : State) (c : Source), s.port.busy = false → s.port.argument.source = c →
    (c = s.sel.current →
      exec .selectSource s =
        .next { s with sel := { s.sel with target := none }, port := { s.port with result := some (.done, .selectSource) } }) ∧
    (∀ tr : BeatLine, c = tr.source → c ≠ s.sel.current → (s.tracker tr).state = .disabled →
      exec .selectSource s = .next { s with port := { s.port with result := some (.refusedState, .selectSource) } }) ∧
    (c ≠ s.sel.current → (∀ tr : BeatLine, c = tr.source → (s.tracker tr).state ≠ .disabled) →
      exec .selectSource s =
        .next { s with sel := { s.sel with target := some c }, port := { s.port with result := some (.done, .selectSource) } })

/-- BEAT_NOW makes a SOFT candidate while SOFT is C or P: delivered with DONE, and then the selector is as R145 and R148 give, or SUPPRESSED with
nothing else changed; otherwise it is refused (R149). Where the beat would change no window, nothing else changes but, at a switch,
SOURCE_SWITCHED recorded. -/
def Obligations.BeatNowOffersASoftCandidate : Prop :=
  ∀ s : State, s.port.busy = false →
    (s.sel.current ≠ .soft → s.sel.target ≠ some .soft →
      exec .beatNow s = .next { s with port := { s.port with result := some (.refusedState, .beatNow) } }) ∧
    (s.sel.current = .soft ∨ s.sel.target = some .soft →
      (∀ d, s.sel.lastDelivered = some d → s.timeBase < d + s.sel.gap.toNat →
        exec .beatNow s = .next { s with port := { s.port with result := some (.suppressed, .beatNow) } }) ∧
      ((∀ d, s.sel.lastDelivered = some d → d + s.sel.gap.toNat ≤ s.timeBase) →
        ∃ t, exec .beatNow s = .next t ∧ t.port = { s.port with result := some (.done, .beatNow) } ∧
          t.sel = s.sel.afterCandidate .soft s.timeBase ∧ t.sel.beatNumber = s.sel.beatNumber + 1 ∧
          (s.noFrame → t = { s with sel := t.sel, notif := (s.afterBeat .soft).notif, port := t.port })))

/-- INIT, when taken, answers every held request ERROR, oldest first, and empties the hold queue; each READY answer behind them may leave,
and every other entry of the in-flight list is kept; the windows and the store stand as they were, and the result is kept (R83, R165).
With nothing outstanding, and nothing waiting to be, it ends at once with nothing left in flight (R167, R168). INIT_END is that end where
it is still to be made, and finds it done otherwise, as it does in every state that a run reaches (the model's choice, log entry 16). -/
def Obligations.InitIsTakenAndEnds : Prop :=
  ∀ s : State,
    (s.port.busy = false → s.outstanding ≠ [] →
      ∃ t, exec .initCommand s = .next t ∧
        t = { s with inflight := t.inflight, answers := t.answers, holdQueue := [], port := { s.port with busy := true } } ∧
        s.answers <+: t.answers ∧
        (s.portsAgree →
          (∀ h ∈ s.holdQueue, t.answered h.order h.request.initiator .error) ∧
          (∀ e ∈ s.inflight, e.status ≠ .held →
            e ∈ t.inflight ∨ ∃ a, e.status = .ready a ∧ t.answered e.order e.request.initiator a) ∧
          (∀ f ∈ t.inflight, f ∈ s.inflight ∨
            ∃ e ∈ s.inflight, e.status = .held ∧ f = { e with status := .ready .error }) ∧
          (∀ f ∈ t.inflight, f.status ≠ .held) ∧
          ∀ b ∈ t.answers.drop s.answers.length, ∃ e ∈ s.inflight,
            e.order = b.order ∧ e.request.initiator = b.initiator ∧
              ((e.status = .held ∧ b.form = .error) ∨ e.status = .ready b.form))) ∧
    (s.port.busy = false → s.outstanding = [] → s.waitList = [] → s.portsAgree → s.noAnswerWaits →
      ∃ (t taken : State), exec .initCommand s = .next t ∧ t.isEndOf taken ∧
        taken = { s with inflight := [], answers := taken.answers, holdQueue := [] } ∧ s.answers <+: taken.answers ∧
        (∀ h ∈ s.holdQueue,
          ({ order := h.order, initiator := h.request.initiator, form := .error } : Answer) ∈ t.answers) ∧
        ∀ e ∈ s.inflight, ∀ a, e.status = .ready a →
          ({ order := e.order, initiator := e.request.initiator, form := a } : Answer) ∈ t.answers) ∧
    (s.port.busy = true → s.inflight = [] → s.outstanding = [] →
      ∃ t, exec .initEnd s = .next t ∧ t.isEndOf s) ∧
    (¬ (s.port.busy = true ∧ s.inflight = [] ∧ s.outstanding = []) → exec .initEnd s = .next s)

/-- While INIT is in progress no command is taken, whatever its code, and the refused-busy flag is set (R163); a code the slot does not
define is not taken and sets the ignored-write flag (R162). -/
def Obligations.CommandsThatAreNotTaken : Prop :=
  ∀ s : State,
    (s.port.busy = true →
      ∀ c ∈ [Instr.openWindow, .closeWindow, .selectSource, .beatNow, .initCommand],
        exec c s = .next { s with port := { s.port with refusedBusy := true } }) ∧
    ∀ code : BitVec 8,
      (s.port.busy = true →
        exec (.undefinedCommand code) s = .next { s with port := { s.port with refusedBusy := true } }) ∧
      (s.port.busy = false → undefinedCode code = true →
        exec (.undefinedCommand code) s = .next { s with port := { s.port with ignoredWrite := true } })

/-! ### Register writes -/

/-- A write of a whole descriptor word to an OFF window takes effect at once and reads back in every bit that a field occupies, the
other words unchanged (R3, R4, R159); a word that would place code 3 in a mode field, and any write to a window that is not OFF, is ignored and
sets the ignored-write flag (R4, R159). -/
def Obligations.DescriptorWrites : Prop :=
  ∀ (s : State) (w : WindowId) (i : Fin 6) (v : Word) (lanes : BitVec 4),
    ((s.window w).state ≠ .off →
      exec (.descriptorWrite w i ⟨v, lanes⟩) s = .next { s with port := { s.port with ignoredWrite := true } }) ∧
    ((s.window w).state = .off →
      ((i = 2 ∧ v.extractLsb' 20 2 = 3) ∨ (i = 3 ∧ v.extractLsb' 17 2 = 3) →
        exec (.descriptorWrite w i ⟨v, 0xF⟩) s = .next { s with port := { s.port with ignoredWrite := true } }) ∧
      (¬ ((i = 2 ∧ v.extractLsb' 20 2 = 3) ∨ (i = 3 ∧ v.extractLsb' 17 2 = 3)) →
        ∃ d : Descriptor,
          exec (.descriptorWrite w i ⟨v, 0xF⟩) s = .next (s.updWindow w fun u => { u with desc := d }) ∧
          d.word i = v &&&
            (match i with
             | 0 => 0xFFFFFFC0
             | 1 => 0x0000FFFF
             | 2 => 0x00371FFF
             | 3 => 0x0037FFFF
             | 4 => 0x03FF03FF
             | 5 => 0x0000FFFF) ∧
          ∀ j, j ≠ i → d.word j = (s.window w).desc.word j))

/-- Writes of a whole word of the hold limit, the minimum gap and the internal period take the value in range, each against the other
where its rule says so, and are else ignored with the ignored-write flag; nothing else changes (R79, R143, R144). -/
def Obligations.SettingWrites : Prop :=
  ∀ (s : State) (v : Word) (n : Nat),
    (v.toNat % 2 ^ 16 = n →
      (16 ≤ n → exec (.holdLimitWrite ⟨v, 0xF⟩) s = .next { s with holdLimit := BitVec.ofNat 16 n }) ∧
      (n < 16 → exec (.holdLimitWrite ⟨v, 0xF⟩) s = .next { s with port := { s.port with ignoredWrite := true } }) ∧
      (10 ≤ n ∧ n ≤ s.sel.period.toNat →
        exec (.minimumGapWrite ⟨v, 0xF⟩) s = .next { s with sel := { s.sel with gap := BitVec.ofNat 16 n } }) ∧
      (¬ (10 ≤ n ∧ n ≤ s.sel.period.toNat) →
        exec (.minimumGapWrite ⟨v, 0xF⟩) s = .next { s with port := { s.port with ignoredWrite := true } })) ∧
    (v.toNat % 2 ^ 20 = n →
      (100 ≤ n ∧ n ≤ 1000000 ∧ s.sel.gap.toNat ≤ n →
        exec (.internalPeriodWrite ⟨v, 0xF⟩) s = .next { s with sel := { s.sel with period := BitVec.ofNat 20 n } }) ∧
      (¬ (100 ≤ n ∧ n ≤ 1000000 ∧ s.sel.gap.toNat ≤ n) →
        exec (.internalPeriodWrite ⟨v, 0xF⟩) s = .next { s with port := { s.port with ignoredWrite := true } }))

/-- The flags are cleared each by its own write (R160, R161); a pop removes the head record (R175); the overflow count is cleared (R177); the
interrupt enable is written, and INT is asserted while it is set and the queue holds a record (R178); nothing else changes. -/
def Obligations.FlagAndNotificationWrites : Prop :=
  ∀ (s : State) (v : Word),
    exec .clearIgnoredWrite s = .next { s with port := { s.port with ignoredWrite := false } } ∧
    exec .clearRefusedBusy s = .next { s with port := { s.port with refusedBusy := false } } ∧
    (s.notif.queue = [] → exec .pop s = .next s) ∧
    (∀ x q, s.notif.queue = x :: q → exec .pop s = .next { s with notif := { s.notif with queue := q } }) ∧
    exec .overflowCountClear s = .next { s with notif := { s.notif with overflow := 0 } } ∧
    ∃ t, exec (.interruptEnableWrite ⟨v, 0xF⟩) s = .next t ∧
      t = { s with notif := { s.notif with intEnable := v.getLsbD 0 } } ∧
      (t.intLine = true ↔ v.getLsbD 0 = true ∧ s.notif.queue ≠ [])

/-- Tracker writes: T, Q and M together are taken in range for a source that is neither C nor P, and else ignored with the flag (R126); enable set
makes a DISABLED tracker SEEKING and changes no other (R128); enable clear disables a tracker whose source is neither, changes nothing of a DISABLED
one, and is else ignored with the flag (R129, R152). That it is ignored with the flag also for a DISABLED tracker whose source is C or P, where
R129 says that no flag is set, is the model's choice (log entry 19); no run reaches it. -/
def Obligations.TrackerWrites : Prop :=
  ∀ (s : State) (tr : BeatLine) (v : Word) (tol q m : Nat),
    v.toNat % 2 ^ 12 = tol → v.toNat / 2 ^ 16 % 2 ^ 4 = q → v.toNat / 2 ^ 24 % 2 ^ 3 = m →
    ((s.sel.current = tr.source ∨ s.sel.target = some tr.source) →
      exec (.trackerConfigurationWrite tr ⟨v, 0xF⟩) s = .next { s with port := { s.port with ignoredWrite := true } } ∧
      exec (.trackerEnableClear tr) s = .next { s with port := { s.port with ignoredWrite := true } }) ∧
    (¬ (s.sel.current = tr.source ∨ s.sel.target = some tr.source) →
      (1 ≤ tol ∧ 2 ≤ q ∧ 1 ≤ m →
        exec (.trackerConfigurationWrite tr ⟨v, 0xF⟩) s =
          .next (s.setTracker tr
            { s.tracker tr with
              tolerance := BitVec.ofNat 12 tol, qualCount := BitVec.ofNat 4 q, missLimit := BitVec.ofNat 3 m })) ∧
      (¬ (1 ≤ tol ∧ 2 ≤ q ∧ 1 ≤ m) →
        exec (.trackerConfigurationWrite tr ⟨v, 0xF⟩) s = .next { s with port := { s.port with ignoredWrite := true } }) ∧
      ((s.tracker tr).state ≠ .disabled →
        exec (.trackerEnableClear tr) s =
          .next (s.setTracker tr
            { s.tracker tr with
              enable := false, state := .disabled, refPeriod := none, expected := none, lastEdge := none, goodCount := 0,
              missedCount := 0, earlyCount := 0 })) ∧
      ((s.tracker tr).state = .disabled → exec (.trackerEnableClear tr) s = .next s)) ∧
    ((s.tracker tr).state = .disabled →
      exec (.trackerEnableSet tr) s = .next (s.setTracker tr { s.tracker tr with enable := true, state := .seeking })) ∧
    ((s.tracker tr).state ≠ .disabled → exec (.trackerEnableSet tr) s = .next s)

/-- A write of the failover enable takes effect at once; one that sets it while C is an external source whose tracker does not hold lock
makes a failover (R150, R151); nothing else changes. -/
def Obligations.FailoverEnableWrites : Prop :=
  ∀ (s : State) (v : Word),
    (v.getLsbD 0 = false ∨ (∀ tr : BeatLine, s.sel.current = tr.source →
        (s.tracker tr).state = .locked ∨ (s.tracker tr).state = .holdover) →
      exec (.failoverEnableWrite ⟨v, 0xF⟩) s =
        .next { s with sel := { s.sel with failoverEnable := v.getLsbD 0 } }) ∧
    (∀ (tr : BeatLine) (d : Time), v.getLsbD 0 = true → s.sel.current = tr.source →
      ¬ ((s.tracker tr).state = .locked ∨ (s.tracker tr).state = .holdover) → s.sel.lastDelivered = some d →
      exec (.failoverEnableWrite ⟨v, 0xF⟩) s =
        .next { s with
          sel :=
            { s.sel with
              failoverEnable := true
              current := .internal
              target := if s.sel.target = some .internal then none else s.sel.target
              nextTime := d + s.sel.period.toNat }
          notif := (s.notify .failover (.source tr.source) none none).notif })

/-- A write of the register window has the effect of a write of the whole word that is merged, byte lane by byte lane, with what a read
shows, and the offset's two lowest bits are ignored (R156); it has no effect on a read-only register or where no register lies (R156, R158); whole
words of the kind mask and of the argument take effect at once and read back (R159, R163, R171). A read shows the fields at their places and codes:
the settings, the flags, the trackers, the selector, the argument and the command slot's result, the descriptors, the status words and the
notification head (R158, R159, R175). -/
def Obligations.RegisterWrites : Prop :=
  ∀ (s : State) (o : BitVec 12) (d : BusWrite) (v : Word),
    (∀ (g : Reg) (i : Fin 4), (s.mergeWrite g d).extractLsb' (8 * i.val) 8 =
      if d.lanes.getLsbD i.val then d.value.extractLsb' (8 * i.val) 8 else (s.readReg g).extractLsb' (8 * i.val) 8) ∧
    (∀ g, regAt o = some g → exec (.registerWrite o d) s = exec (.registerWrite o ⟨s.mergeWrite g d, 0xF⟩) s) ∧
    (exec (.registerWrite o d) s = exec (.registerWrite (o &&& 0xFFC) d) s ∧ s.readOffset o = s.readOffset (o &&& 0xFFC)) ∧
    (regAt o = none → s.readOffset o = 0 ∧ exec (.registerWrite o d) s = .next s) ∧
    (∀ g, regAt o = some g →
      (g = .identification ∨ g = .selectorStatus ∨ g = .beatNumber ∨ g = .freeCount ∨ g = .result ∨ g = .busy ∨
          g = .queueCount ∨ (∃ tr, g = .trackerStatus tr ∨ g = .trackerPeriod tr) ∨ (∃ i, g = .head i) ∨
          (∃ w i, g = .status w i)) →
      exec (.registerWrite o d) s = .next s) ∧
    (∃ t, exec (.registerWrite 0x09C ⟨v, 0xF⟩) s = .next t ∧ t = { s with notif := { s.notif with mask := t.notif.mask } } ∧
      t.readOffset 0x09C = v &&& 0x0000FFFE) ∧
    (∃ t, exec (.registerWrite 0x054 ⟨v, 0xF⟩) s = .next t ∧ t = { s with port := { s.port with argument := t.port.argument } } ∧
      t.readOffset 0x054 = v &&& 0x0003010F) ∧
    codesAreThoseOfTheTable ∧ s.globalsShow ∧
    (∀ x ∈ [(BeatLine.a, 0x020), (.b, 0x030)], (s.tracker x.1).lawful → s.trackerShows x.1 x.2) ∧
    (∀ w, s.descriptorShows w) ∧ (∀ w, (s.window w).lawful → s.reserveKept → s.statusShows w) ∧
    (s.notif.lawful → s.notif.counted → s.notificationsShow)

/-- A write of the register window is the write that the register's owner judges, at the offsets of R158: the settings, each tracker's
configuration and enable, pop, overflow count, interrupt enable, the words of the descriptors, the flags bit by bit, and the command register by its
code, which is 0 where byte lane 0 is disabled (R156, R158 to R163). -/
def Obligations.RegisterWritesReachTheirOwners : Prop :=
  ∀ (s : State) (d : BusWrite),
    exec (.registerWrite 0x008 d) s = exec (.holdLimitWrite d) s ∧
    exec (.registerWrite 0x00C d) s = exec (.minimumGapWrite d) s ∧
    exec (.registerWrite 0x010 d) s = exec (.internalPeriodWrite d) s ∧
    exec (.registerWrite 0x014 d) s = exec (.failoverEnableWrite d) s ∧
    exec (.registerWrite 0x020 d) s = exec (.trackerConfigurationWrite .a d) s ∧
    exec (.registerWrite 0x030 d) s = exec (.trackerConfigurationWrite .b d) s ∧
    exec (.registerWrite 0x098 d) s = exec .pop s ∧
    exec (.registerWrite 0x0A0 d) s = exec .overflowCountClear s ∧
    exec (.registerWrite 0x0A4 d) s = exec (.interruptEnableWrite d) s ∧
    (∀ (w : WindowId) (i : Fin 6),
      exec (.registerWrite (BitVec.ofNat 12 (0x100 + 0x20 * w.val + 4 * i.val)) d) s = exec (.descriptorWrite w i d) s) ∧
    (d.lanes.getLsbD 0 = true →
      (∀ x ∈ [((0x024 : BitVec 12), BeatLine.a), (0x034, .b)],
        exec (.registerWrite x.1 d) s =
          if d.value.getLsbD 0 then exec (.trackerEnableSet x.2) s else exec (.trackerEnableClear x.2) s) ∧
      (d.value.extractLsb' 0 2 = 0 → exec (.registerWrite 0x004 d) s = .next s) ∧
      (d.value.extractLsb' 0 2 = 1 → exec (.registerWrite 0x004 d) s = exec .clearIgnoredWrite s) ∧
      (d.value.extractLsb' 0 2 = 2 → exec (.registerWrite 0x004 d) s = exec .clearRefusedBusy s) ∧
      (d.value.extractLsb' 0 2 = 3 →
        exec (.registerWrite 0x004 d) s =
          .next { s with port := { s.port with ignoredWrite := false, refusedBusy := false } })) ∧
    ∀ code : BitVec 8, code = (if d.lanes.getLsbD 0 then d.value.extractLsb' 0 8 else 0) →
      (code = 1 → exec (.registerWrite 0x050 d) s = exec .openWindow s) ∧
      (code = 2 → exec (.registerWrite 0x050 d) s = exec .closeWindow s) ∧
      (code = 3 → exec (.registerWrite 0x050 d) s = exec .selectSource s) ∧
      (code = 4 → exec (.registerWrite 0x050 d) s = exec .beatNow s) ∧
      (code = 5 → exec (.registerWrite 0x050 d) s = exec .initCommand s) ∧
      (undefinedCode code = true → exec (.registerWrite 0x050 d) s = exec (.undefinedCommand code) s)

/-- An event offered for recording: masked off, nothing; with a match other than the head, that record's count alone rises; else a new
record at the tail while there are fewer than 32; else the overflow count rises (R171, R173, R177). -/
def Obligations.EventsAreRecordedByTheRule : Prop :=
  (∀ (s : State) (k : NotifKind) (u : Subject) (l : Option Line) (i : Option Initiator),
    s.notify k u l i =
      { s with
        notif := s.notif.record
          { kind := k, subject := u, beat := s.sel.beatNumber, line := l, initiator := i, count := 1 } }) ∧
  ∀ (n : Notifier) (x : NotifRecord),
    (n.mask.getLsbD x.kind.code = false → n.record x = n) ∧
    (n.mask.getLsbD x.kind.code = true →
      (∀ (h y : NotifRecord) (pre post : List NotifRecord), n.queue = h :: (pre ++ y :: post) → x.sameKey y →
        (∀ z ∈ pre, ¬ x.sameKey z) →
        n.record x =
          { n with queue := h :: (pre ++ { y with count := min (y.count + 1) (max 65535 y.count) } :: post) }) ∧
      ((∀ y ∈ n.queue.tail, ¬ x.sameKey y) →
        (n.queue.length < 32 → n.record x = { n with queue := n.queue ++ [x] }) ∧
        (32 ≤ n.queue.length →
          n.record x = { n with overflow := min (n.overflow + 1) (max 65535 n.overflow) })))
end

