-- ==== Sys2Proof/Laws/State.lean ====
section
/-! SUPPORT. What each update of the state leaves as it was: one lemma for each field and update, so that no later proof unfolds an
update. -/

namespace Sys2Proof.Machine

variable (s : State)


/-! ### updWindow -/

@[simp] theorem State.updWindow_timeBase (w : WindowId) (f : Window → Window) : (s.updWindow w f).timeBase = s.timeBase := rfl
@[simp] theorem State.updWindow_pool (w : WindowId) (f : Window → Window) : (s.updWindow w f).pool = s.pool := rfl
@[simp] theorem State.updWindow_inflight (w : WindowId) (f : Window → Window) : (s.updWindow w f).inflight = s.inflight := rfl
@[simp] theorem State.updWindow_nextOrder (w : WindowId) (f : Window → Window) : (s.updWindow w f).nextOrder = s.nextOrder := rfl
@[simp] theorem State.updWindow_holdQueue (w : WindowId) (f : Window → Window) : (s.updWindow w f).holdQueue = s.holdQueue := rfl
@[simp] theorem State.updWindow_holdLimit (w : WindowId) (f : Window → Window) : (s.updWindow w f).holdLimit = s.holdLimit := rfl
@[simp] theorem State.updWindow_drainQueue (w : WindowId) (f : Window → Window) : (s.updWindow w f).drainQueue = s.drainQueue := rfl
@[simp] theorem State.updWindow_waitList (w : WindowId) (f : Window → Window) : (s.updWindow w f).waitList = s.waitList := rfl
@[simp] theorem State.updWindow_outstanding (w : WindowId) (f : Window → Window) : (s.updWindow w f).outstanding = s.outstanding := rfl
@[simp] theorem State.updWindow_trackerA (w : WindowId) (f : Window → Window) : (s.updWindow w f).trackerA = s.trackerA := rfl
@[simp] theorem State.updWindow_trackerB (w : WindowId) (f : Window → Window) : (s.updWindow w f).trackerB = s.trackerB := rfl
@[simp] theorem State.updWindow_sel (w : WindowId) (f : Window → Window) : (s.updWindow w f).sel = s.sel := rfl
@[simp] theorem State.updWindow_port (w : WindowId) (f : Window → Window) : (s.updWindow w f).port = s.port := rfl
@[simp] theorem State.updWindow_notif (w : WindowId) (f : Window → Window) : (s.updWindow w f).notif = s.notif := rfl
@[simp] theorem State.updWindow_hostBus (w : WindowId) (f : Window → Window) : (s.updWindow w f).hostBus = s.hostBus := rfl
@[simp] theorem State.updWindow_answers (w : WindowId) (f : Window → Window) : (s.updWindow w f).answers = s.answers := rfl
@[simp] theorem State.updWindow_issued (w : WindowId) (f : Window → Window) : (s.updWindow w f).issued = s.issued := rfl
@[simp] theorem State.updWindow_pending (w : WindowId) (f : Window → Window) : (s.updWindow w f).pending = s.pending := rfl

/-! ### ignoreWrite -/

@[simp] theorem State.ignoreWrite_timeBase : s.ignoreWrite.timeBase = s.timeBase := rfl
@[simp] theorem State.ignoreWrite_windows : s.ignoreWrite.windows = s.windows := rfl
@[simp] theorem State.ignoreWrite_pool : s.ignoreWrite.pool = s.pool := rfl
@[simp] theorem State.ignoreWrite_inflight : s.ignoreWrite.inflight = s.inflight := rfl
@[simp] theorem State.ignoreWrite_nextOrder : s.ignoreWrite.nextOrder = s.nextOrder := rfl
@[simp] theorem State.ignoreWrite_holdQueue : s.ignoreWrite.holdQueue = s.holdQueue := rfl
@[simp] theorem State.ignoreWrite_holdLimit : s.ignoreWrite.holdLimit = s.holdLimit := rfl
@[simp] theorem State.ignoreWrite_drainQueue : s.ignoreWrite.drainQueue = s.drainQueue := rfl
@[simp] theorem State.ignoreWrite_waitList : s.ignoreWrite.waitList = s.waitList := rfl
@[simp] theorem State.ignoreWrite_outstanding : s.ignoreWrite.outstanding = s.outstanding := rfl
@[simp] theorem State.ignoreWrite_trackerA : s.ignoreWrite.trackerA = s.trackerA := rfl
@[simp] theorem State.ignoreWrite_trackerB : s.ignoreWrite.trackerB = s.trackerB := rfl
@[simp] theorem State.ignoreWrite_sel : s.ignoreWrite.sel = s.sel := rfl
@[simp] theorem State.ignoreWrite_notif : s.ignoreWrite.notif = s.notif := rfl
@[simp] theorem State.ignoreWrite_hostBus : s.ignoreWrite.hostBus = s.hostBus := rfl
@[simp] theorem State.ignoreWrite_answers : s.ignoreWrite.answers = s.answers := rfl
@[simp] theorem State.ignoreWrite_issued : s.ignoreWrite.issued = s.issued := rfl
@[simp] theorem State.ignoreWrite_pending : s.ignoreWrite.pending = s.pending := rfl

/-! ### refuseBusy -/

@[simp] theorem State.refuseBusy_timeBase : s.refuseBusy.timeBase = s.timeBase := rfl
@[simp] theorem State.refuseBusy_windows : s.refuseBusy.windows = s.windows := rfl
@[simp] theorem State.refuseBusy_pool : s.refuseBusy.pool = s.pool := rfl
@[simp] theorem State.refuseBusy_inflight : s.refuseBusy.inflight = s.inflight := rfl
@[simp] theorem State.refuseBusy_nextOrder : s.refuseBusy.nextOrder = s.nextOrder := rfl
@[simp] theorem State.refuseBusy_holdQueue : s.refuseBusy.holdQueue = s.holdQueue := rfl
@[simp] theorem State.refuseBusy_holdLimit : s.refuseBusy.holdLimit = s.holdLimit := rfl
@[simp] theorem State.refuseBusy_drainQueue : s.refuseBusy.drainQueue = s.drainQueue := rfl
@[simp] theorem State.refuseBusy_waitList : s.refuseBusy.waitList = s.waitList := rfl
@[simp] theorem State.refuseBusy_outstanding : s.refuseBusy.outstanding = s.outstanding := rfl
@[simp] theorem State.refuseBusy_trackerA : s.refuseBusy.trackerA = s.trackerA := rfl
@[simp] theorem State.refuseBusy_trackerB : s.refuseBusy.trackerB = s.trackerB := rfl
@[simp] theorem State.refuseBusy_sel : s.refuseBusy.sel = s.sel := rfl
@[simp] theorem State.refuseBusy_notif : s.refuseBusy.notif = s.notif := rfl
@[simp] theorem State.refuseBusy_hostBus : s.refuseBusy.hostBus = s.hostBus := rfl
@[simp] theorem State.refuseBusy_answers : s.refuseBusy.answers = s.answers := rfl
@[simp] theorem State.refuseBusy_issued : s.refuseBusy.issued = s.issued := rfl
@[simp] theorem State.refuseBusy_pending : s.refuseBusy.pending = s.pending := rfl

/-! ### notify -/

@[simp] theorem State.notify_timeBase (k : NotifKind) (u : Subject) (l : Option Line) (i : Option Initiator) : (s.notify k u l i).timeBase = s.timeBase := rfl
@[simp] theorem State.notify_windows (k : NotifKind) (u : Subject) (l : Option Line) (i : Option Initiator) : (s.notify k u l i).windows = s.windows := rfl
@[simp] theorem State.notify_pool (k : NotifKind) (u : Subject) (l : Option Line) (i : Option Initiator) : (s.notify k u l i).pool = s.pool := rfl
@[simp] theorem State.notify_inflight (k : NotifKind) (u : Subject) (l : Option Line) (i : Option Initiator) : (s.notify k u l i).inflight = s.inflight := rfl
@[simp] theorem State.notify_nextOrder (k : NotifKind) (u : Subject) (l : Option Line) (i : Option Initiator) : (s.notify k u l i).nextOrder = s.nextOrder := rfl
@[simp] theorem State.notify_holdQueue (k : NotifKind) (u : Subject) (l : Option Line) (i : Option Initiator) : (s.notify k u l i).holdQueue = s.holdQueue := rfl
@[simp] theorem State.notify_holdLimit (k : NotifKind) (u : Subject) (l : Option Line) (i : Option Initiator) : (s.notify k u l i).holdLimit = s.holdLimit := rfl
@[simp] theorem State.notify_drainQueue (k : NotifKind) (u : Subject) (l : Option Line) (i : Option Initiator) : (s.notify k u l i).drainQueue = s.drainQueue := rfl
@[simp] theorem State.notify_waitList (k : NotifKind) (u : Subject) (l : Option Line) (i : Option Initiator) : (s.notify k u l i).waitList = s.waitList := rfl
@[simp] theorem State.notify_outstanding (k : NotifKind) (u : Subject) (l : Option Line) (i : Option Initiator) : (s.notify k u l i).outstanding = s.outstanding := rfl
@[simp] theorem State.notify_trackerA (k : NotifKind) (u : Subject) (l : Option Line) (i : Option Initiator) : (s.notify k u l i).trackerA = s.trackerA := rfl
@[simp] theorem State.notify_trackerB (k : NotifKind) (u : Subject) (l : Option Line) (i : Option Initiator) : (s.notify k u l i).trackerB = s.trackerB := rfl
@[simp] theorem State.notify_sel (k : NotifKind) (u : Subject) (l : Option Line) (i : Option Initiator) : (s.notify k u l i).sel = s.sel := rfl
@[simp] theorem State.notify_port (k : NotifKind) (u : Subject) (l : Option Line) (i : Option Initiator) : (s.notify k u l i).port = s.port := rfl
@[simp] theorem State.notify_hostBus (k : NotifKind) (u : Subject) (l : Option Line) (i : Option Initiator) : (s.notify k u l i).hostBus = s.hostBus := rfl
@[simp] theorem State.notify_answers (k : NotifKind) (u : Subject) (l : Option Line) (i : Option Initiator) : (s.notify k u l i).answers = s.answers := rfl
@[simp] theorem State.notify_issued (k : NotifKind) (u : Subject) (l : Option Line) (i : Option Initiator) : (s.notify k u l i).issued = s.issued := rfl
@[simp] theorem State.notify_pending (k : NotifKind) (u : Subject) (l : Option Line) (i : Option Initiator) : (s.notify k u l i).pending = s.pending := rfl

/-! ### allocate -/

@[simp] theorem State.allocate_timeBase (w : WindowId) (l : Line) : (s.allocate w l).timeBase = s.timeBase := rfl
@[simp] theorem State.allocate_windows (w : WindowId) (l : Line) : (s.allocate w l).windows = s.windows := rfl
@[simp] theorem State.allocate_inflight (w : WindowId) (l : Line) : (s.allocate w l).inflight = s.inflight := rfl
@[simp] theorem State.allocate_nextOrder (w : WindowId) (l : Line) : (s.allocate w l).nextOrder = s.nextOrder := rfl
@[simp] theorem State.allocate_holdQueue (w : WindowId) (l : Line) : (s.allocate w l).holdQueue = s.holdQueue := rfl
@[simp] theorem State.allocate_holdLimit (w : WindowId) (l : Line) : (s.allocate w l).holdLimit = s.holdLimit := rfl
@[simp] theorem State.allocate_drainQueue (w : WindowId) (l : Line) : (s.allocate w l).drainQueue = s.drainQueue := rfl
@[simp] theorem State.allocate_waitList (w : WindowId) (l : Line) : (s.allocate w l).waitList = s.waitList := rfl
@[simp] theorem State.allocate_outstanding (w : WindowId) (l : Line) : (s.allocate w l).outstanding = s.outstanding := rfl
@[simp] theorem State.allocate_trackerA (w : WindowId) (l : Line) : (s.allocate w l).trackerA = s.trackerA := rfl
@[simp] theorem State.allocate_trackerB (w : WindowId) (l : Line) : (s.allocate w l).trackerB = s.trackerB := rfl
@[simp] theorem State.allocate_sel (w : WindowId) (l : Line) : (s.allocate w l).sel = s.sel := rfl
@[simp] theorem State.allocate_port (w : WindowId) (l : Line) : (s.allocate w l).port = s.port := rfl
@[simp] theorem State.allocate_notif (w : WindowId) (l : Line) : (s.allocate w l).notif = s.notif := rfl
@[simp] theorem State.allocate_hostBus (w : WindowId) (l : Line) : (s.allocate w l).hostBus = s.hostBus := rfl
@[simp] theorem State.allocate_answers (w : WindowId) (l : Line) : (s.allocate w l).answers = s.answers := rfl
@[simp] theorem State.allocate_issued (w : WindowId) (l : Line) : (s.allocate w l).issued = s.issued := rfl
@[simp] theorem State.allocate_pending (w : WindowId) (l : Line) : (s.allocate w l).pending = s.pending := rfl

/-! ### merge -/

@[simp] theorem State.merge_timeBase (w : WindowId) (r : Request) : (s.merge w r).timeBase = s.timeBase := rfl
@[simp] theorem State.merge_windows (w : WindowId) (r : Request) : (s.merge w r).windows = s.windows := rfl
@[simp] theorem State.merge_inflight (w : WindowId) (r : Request) : (s.merge w r).inflight = s.inflight := rfl
@[simp] theorem State.merge_nextOrder (w : WindowId) (r : Request) : (s.merge w r).nextOrder = s.nextOrder := rfl
@[simp] theorem State.merge_holdQueue (w : WindowId) (r : Request) : (s.merge w r).holdQueue = s.holdQueue := rfl
@[simp] theorem State.merge_holdLimit (w : WindowId) (r : Request) : (s.merge w r).holdLimit = s.holdLimit := rfl
@[simp] theorem State.merge_drainQueue (w : WindowId) (r : Request) : (s.merge w r).drainQueue = s.drainQueue := rfl
@[simp] theorem State.merge_waitList (w : WindowId) (r : Request) : (s.merge w r).waitList = s.waitList := rfl
@[simp] theorem State.merge_outstanding (w : WindowId) (r : Request) : (s.merge w r).outstanding = s.outstanding := rfl
@[simp] theorem State.merge_trackerA (w : WindowId) (r : Request) : (s.merge w r).trackerA = s.trackerA := rfl
@[simp] theorem State.merge_trackerB (w : WindowId) (r : Request) : (s.merge w r).trackerB = s.trackerB := rfl
@[simp] theorem State.merge_sel (w : WindowId) (r : Request) : (s.merge w r).sel = s.sel := rfl
@[simp] theorem State.merge_port (w : WindowId) (r : Request) : (s.merge w r).port = s.port := rfl
@[simp] theorem State.merge_notif (w : WindowId) (r : Request) : (s.merge w r).notif = s.notif := rfl
@[simp] theorem State.merge_hostBus (w : WindowId) (r : Request) : (s.merge w r).hostBus = s.hostBus := rfl
@[simp] theorem State.merge_answers (w : WindowId) (r : Request) : (s.merge w r).answers = s.answers := rfl
@[simp] theorem State.merge_issued (w : WindowId) (r : Request) : (s.merge w r).issued = s.issued := rfl
@[simp] theorem State.merge_pending (w : WindowId) (r : Request) : (s.merge w r).pending = s.pending := rfl

/-! ### freeEntries -/

@[simp] theorem State.freeEntries_timeBase (p : Entry → Bool) : (s.freeEntries p).timeBase = s.timeBase := rfl
@[simp] theorem State.freeEntries_windows (p : Entry → Bool) : (s.freeEntries p).windows = s.windows := rfl
@[simp] theorem State.freeEntries_inflight (p : Entry → Bool) : (s.freeEntries p).inflight = s.inflight := rfl
@[simp] theorem State.freeEntries_nextOrder (p : Entry → Bool) : (s.freeEntries p).nextOrder = s.nextOrder := rfl
@[simp] theorem State.freeEntries_holdQueue (p : Entry → Bool) : (s.freeEntries p).holdQueue = s.holdQueue := rfl
@[simp] theorem State.freeEntries_holdLimit (p : Entry → Bool) : (s.freeEntries p).holdLimit = s.holdLimit := rfl
@[simp] theorem State.freeEntries_waitList (p : Entry → Bool) : (s.freeEntries p).waitList = s.waitList := rfl
@[simp] theorem State.freeEntries_outstanding (p : Entry → Bool) : (s.freeEntries p).outstanding = s.outstanding := rfl
@[simp] theorem State.freeEntries_trackerA (p : Entry → Bool) : (s.freeEntries p).trackerA = s.trackerA := rfl
@[simp] theorem State.freeEntries_trackerB (p : Entry → Bool) : (s.freeEntries p).trackerB = s.trackerB := rfl
@[simp] theorem State.freeEntries_sel (p : Entry → Bool) : (s.freeEntries p).sel = s.sel := rfl
@[simp] theorem State.freeEntries_port (p : Entry → Bool) : (s.freeEntries p).port = s.port := rfl
@[simp] theorem State.freeEntries_notif (p : Entry → Bool) : (s.freeEntries p).notif = s.notif := rfl
@[simp] theorem State.freeEntries_hostBus (p : Entry → Bool) : (s.freeEntries p).hostBus = s.hostBus := rfl
@[simp] theorem State.freeEntries_answers (p : Entry → Bool) : (s.freeEntries p).answers = s.answers := rfl
@[simp] theorem State.freeEntries_issued (p : Entry → Bool) : (s.freeEntries p).issued = s.issued := rfl
@[simp] theorem State.freeEntries_pending (p : Entry → Bool) : (s.freeEntries p).pending = s.pending := rfl

/-! ### depart -/

@[simp] theorem State.depart_timeBase (i : Initiator) : (s.depart i).timeBase = s.timeBase := rfl
@[simp] theorem State.depart_windows (i : Initiator) : (s.depart i).windows = s.windows := rfl
@[simp] theorem State.depart_pool (i : Initiator) : (s.depart i).pool = s.pool := rfl
@[simp] theorem State.depart_nextOrder (i : Initiator) : (s.depart i).nextOrder = s.nextOrder := rfl
@[simp] theorem State.depart_holdQueue (i : Initiator) : (s.depart i).holdQueue = s.holdQueue := rfl
@[simp] theorem State.depart_holdLimit (i : Initiator) : (s.depart i).holdLimit = s.holdLimit := rfl
@[simp] theorem State.depart_drainQueue (i : Initiator) : (s.depart i).drainQueue = s.drainQueue := rfl
@[simp] theorem State.depart_waitList (i : Initiator) : (s.depart i).waitList = s.waitList := rfl
@[simp] theorem State.depart_outstanding (i : Initiator) : (s.depart i).outstanding = s.outstanding := rfl
@[simp] theorem State.depart_trackerA (i : Initiator) : (s.depart i).trackerA = s.trackerA := rfl
@[simp] theorem State.depart_trackerB (i : Initiator) : (s.depart i).trackerB = s.trackerB := rfl
@[simp] theorem State.depart_sel (i : Initiator) : (s.depart i).sel = s.sel := rfl
@[simp] theorem State.depart_port (i : Initiator) : (s.depart i).port = s.port := rfl
@[simp] theorem State.depart_notif (i : Initiator) : (s.depart i).notif = s.notif := rfl
@[simp] theorem State.depart_hostBus (i : Initiator) : (s.depart i).hostBus = s.hostBus := rfl
@[simp] theorem State.depart_issued (i : Initiator) : (s.depart i).issued = s.issued := rfl
@[simp] theorem State.depart_pending (i : Initiator) : (s.depart i).pending = s.pending := rfl

/-! ### setStatus -/

@[simp] theorem State.setStatus_timeBase (n : Nat) (st : Status) : (s.setStatus n st).timeBase = s.timeBase := rfl
@[simp] theorem State.setStatus_windows (n : Nat) (st : Status) : (s.setStatus n st).windows = s.windows := rfl
@[simp] theorem State.setStatus_pool (n : Nat) (st : Status) : (s.setStatus n st).pool = s.pool := rfl
@[simp] theorem State.setStatus_nextOrder (n : Nat) (st : Status) : (s.setStatus n st).nextOrder = s.nextOrder := rfl
@[simp] theorem State.setStatus_holdQueue (n : Nat) (st : Status) : (s.setStatus n st).holdQueue = s.holdQueue := rfl
@[simp] theorem State.setStatus_holdLimit (n : Nat) (st : Status) : (s.setStatus n st).holdLimit = s.holdLimit := rfl
@[simp] theorem State.setStatus_drainQueue (n : Nat) (st : Status) : (s.setStatus n st).drainQueue = s.drainQueue := rfl
@[simp] theorem State.setStatus_waitList (n : Nat) (st : Status) : (s.setStatus n st).waitList = s.waitList := rfl
@[simp] theorem State.setStatus_outstanding (n : Nat) (st : Status) : (s.setStatus n st).outstanding = s.outstanding := rfl
@[simp] theorem State.setStatus_trackerA (n : Nat) (st : Status) : (s.setStatus n st).trackerA = s.trackerA := rfl
@[simp] theorem State.setStatus_trackerB (n : Nat) (st : Status) : (s.setStatus n st).trackerB = s.trackerB := rfl
@[simp] theorem State.setStatus_sel (n : Nat) (st : Status) : (s.setStatus n st).sel = s.sel := rfl
@[simp] theorem State.setStatus_port (n : Nat) (st : Status) : (s.setStatus n st).port = s.port := rfl
@[simp] theorem State.setStatus_notif (n : Nat) (st : Status) : (s.setStatus n st).notif = s.notif := rfl
@[simp] theorem State.setStatus_hostBus (n : Nat) (st : Status) : (s.setStatus n st).hostBus = s.hostBus := rfl
@[simp] theorem State.setStatus_answers (n : Nat) (st : Status) : (s.setStatus n st).answers = s.answers := rfl
@[simp] theorem State.setStatus_issued (n : Nat) (st : Status) : (s.setStatus n st).issued = s.issued := rfl
@[simp] theorem State.setStatus_pending (n : Nat) (st : Status) : (s.setStatus n st).pending = s.pending := rfl

/-! ### setCapture -/

@[simp] theorem State.setCapture_timeBase (n : Nat) (c : Option (List (Option Byte))) : (s.setCapture n c).timeBase = s.timeBase := rfl
@[simp] theorem State.setCapture_windows (n : Nat) (c : Option (List (Option Byte))) : (s.setCapture n c).windows = s.windows := rfl
@[simp] theorem State.setCapture_pool (n : Nat) (c : Option (List (Option Byte))) : (s.setCapture n c).pool = s.pool := rfl
@[simp] theorem State.setCapture_nextOrder (n : Nat) (c : Option (List (Option Byte))) : (s.setCapture n c).nextOrder = s.nextOrder := rfl
@[simp] theorem State.setCapture_holdQueue (n : Nat) (c : Option (List (Option Byte))) : (s.setCapture n c).holdQueue = s.holdQueue := rfl
@[simp] theorem State.setCapture_holdLimit (n : Nat) (c : Option (List (Option Byte))) : (s.setCapture n c).holdLimit = s.holdLimit := rfl
@[simp] theorem State.setCapture_drainQueue (n : Nat) (c : Option (List (Option Byte))) : (s.setCapture n c).drainQueue = s.drainQueue := rfl
@[simp] theorem State.setCapture_waitList (n : Nat) (c : Option (List (Option Byte))) : (s.setCapture n c).waitList = s.waitList := rfl
@[simp] theorem State.setCapture_outstanding (n : Nat) (c : Option (List (Option Byte))) : (s.setCapture n c).outstanding = s.outstanding := rfl
@[simp] theorem State.setCapture_trackerA (n : Nat) (c : Option (List (Option Byte))) : (s.setCapture n c).trackerA = s.trackerA := rfl
@[simp] theorem State.setCapture_trackerB (n : Nat) (c : Option (List (Option Byte))) : (s.setCapture n c).trackerB = s.trackerB := rfl
@[simp] theorem State.setCapture_sel (n : Nat) (c : Option (List (Option Byte))) : (s.setCapture n c).sel = s.sel := rfl
@[simp] theorem State.setCapture_port (n : Nat) (c : Option (List (Option Byte))) : (s.setCapture n c).port = s.port := rfl
@[simp] theorem State.setCapture_notif (n : Nat) (c : Option (List (Option Byte))) : (s.setCapture n c).notif = s.notif := rfl
@[simp] theorem State.setCapture_hostBus (n : Nat) (c : Option (List (Option Byte))) : (s.setCapture n c).hostBus = s.hostBus := rfl
@[simp] theorem State.setCapture_answers (n : Nat) (c : Option (List (Option Byte))) : (s.setCapture n c).answers = s.answers := rfl
@[simp] theorem State.setCapture_issued (n : Nat) (c : Option (List (Option Byte))) : (s.setCapture n c).issued = s.issued := rfl
@[simp] theorem State.setCapture_pending (n : Nat) (c : Option (List (Option Byte))) : (s.setCapture n c).pending = s.pending := rfl

/-! ### determine -/

@[simp] theorem State.determine_timeBase (n : Nat) (i : Initiator) (a : AnswerForm) : (s.determine n i a).timeBase = s.timeBase := rfl
@[simp] theorem State.determine_windows (n : Nat) (i : Initiator) (a : AnswerForm) : (s.determine n i a).windows = s.windows := rfl
@[simp] theorem State.determine_pool (n : Nat) (i : Initiator) (a : AnswerForm) : (s.determine n i a).pool = s.pool := rfl
@[simp] theorem State.determine_nextOrder (n : Nat) (i : Initiator) (a : AnswerForm) : (s.determine n i a).nextOrder = s.nextOrder := rfl
@[simp] theorem State.determine_holdQueue (n : Nat) (i : Initiator) (a : AnswerForm) : (s.determine n i a).holdQueue = s.holdQueue := rfl
@[simp] theorem State.determine_holdLimit (n : Nat) (i : Initiator) (a : AnswerForm) : (s.determine n i a).holdLimit = s.holdLimit := rfl
@[simp] theorem State.determine_drainQueue (n : Nat) (i : Initiator) (a : AnswerForm) : (s.determine n i a).drainQueue = s.drainQueue := rfl
@[simp] theorem State.determine_waitList (n : Nat) (i : Initiator) (a : AnswerForm) : (s.determine n i a).waitList = s.waitList := rfl
@[simp] theorem State.determine_outstanding (n : Nat) (i : Initiator) (a : AnswerForm) : (s.determine n i a).outstanding = s.outstanding := rfl
@[simp] theorem State.determine_trackerA (n : Nat) (i : Initiator) (a : AnswerForm) : (s.determine n i a).trackerA = s.trackerA := rfl
@[simp] theorem State.determine_trackerB (n : Nat) (i : Initiator) (a : AnswerForm) : (s.determine n i a).trackerB = s.trackerB := rfl
@[simp] theorem State.determine_sel (n : Nat) (i : Initiator) (a : AnswerForm) : (s.determine n i a).sel = s.sel := rfl
@[simp] theorem State.determine_port (n : Nat) (i : Initiator) (a : AnswerForm) : (s.determine n i a).port = s.port := rfl
@[simp] theorem State.determine_notif (n : Nat) (i : Initiator) (a : AnswerForm) : (s.determine n i a).notif = s.notif := rfl
@[simp] theorem State.determine_hostBus (n : Nat) (i : Initiator) (a : AnswerForm) : (s.determine n i a).hostBus = s.hostBus := rfl
@[simp] theorem State.determine_issued (n : Nat) (i : Initiator) (a : AnswerForm) : (s.determine n i a).issued = s.issued := rfl
@[simp] theorem State.determine_pending (n : Nat) (i : Initiator) (a : AnswerForm) : (s.determine n i a).pending = s.pending := rfl

/-! ### handOver -/

@[simp] theorem State.handOver_timeBase (d : HostDown) : (s.handOver d).timeBase = s.timeBase := rfl
@[simp] theorem State.handOver_windows (d : HostDown) : (s.handOver d).windows = s.windows := rfl
@[simp] theorem State.handOver_pool (d : HostDown) : (s.handOver d).pool = s.pool := rfl
@[simp] theorem State.handOver_inflight (d : HostDown) : (s.handOver d).inflight = s.inflight := rfl
@[simp] theorem State.handOver_nextOrder (d : HostDown) : (s.handOver d).nextOrder = s.nextOrder := rfl
@[simp] theorem State.handOver_holdQueue (d : HostDown) : (s.handOver d).holdQueue = s.holdQueue := rfl
@[simp] theorem State.handOver_holdLimit (d : HostDown) : (s.handOver d).holdLimit = s.holdLimit := rfl
@[simp] theorem State.handOver_drainQueue (d : HostDown) : (s.handOver d).drainQueue = s.drainQueue := rfl
@[simp] theorem State.handOver_outstanding (d : HostDown) : (s.handOver d).outstanding = s.outstanding := rfl
@[simp] theorem State.handOver_trackerA (d : HostDown) : (s.handOver d).trackerA = s.trackerA := rfl
@[simp] theorem State.handOver_trackerB (d : HostDown) : (s.handOver d).trackerB = s.trackerB := rfl
@[simp] theorem State.handOver_sel (d : HostDown) : (s.handOver d).sel = s.sel := rfl
@[simp] theorem State.handOver_port (d : HostDown) : (s.handOver d).port = s.port := rfl
@[simp] theorem State.handOver_notif (d : HostDown) : (s.handOver d).notif = s.notif := rfl
@[simp] theorem State.handOver_hostBus (d : HostDown) : (s.handOver d).hostBus = s.hostBus := rfl
@[simp] theorem State.handOver_answers (d : HostDown) : (s.handOver d).answers = s.answers := rfl
@[simp] theorem State.handOver_issued (d : HostDown) : (s.handOver d).issued = s.issued := rfl
@[simp] theorem State.handOver_pending (d : HostDown) : (s.handOver d).pending = s.pending := rfl

/-! ### issueHost -/

@[simp] theorem State.issueHost_timeBase : s.issueHost.timeBase = s.timeBase := rfl
@[simp] theorem State.issueHost_windows : s.issueHost.windows = s.windows := rfl
@[simp] theorem State.issueHost_pool : s.issueHost.pool = s.pool := rfl
@[simp] theorem State.issueHost_inflight : s.issueHost.inflight = s.inflight := rfl
@[simp] theorem State.issueHost_nextOrder : s.issueHost.nextOrder = s.nextOrder := rfl
@[simp] theorem State.issueHost_holdQueue : s.issueHost.holdQueue = s.holdQueue := rfl
@[simp] theorem State.issueHost_holdLimit : s.issueHost.holdLimit = s.holdLimit := rfl
@[simp] theorem State.issueHost_drainQueue : s.issueHost.drainQueue = s.drainQueue := rfl
@[simp] theorem State.issueHost_trackerA : s.issueHost.trackerA = s.trackerA := rfl
@[simp] theorem State.issueHost_trackerB : s.issueHost.trackerB = s.trackerB := rfl
@[simp] theorem State.issueHost_sel : s.issueHost.sel = s.sel := rfl
@[simp] theorem State.issueHost_port : s.issueHost.port = s.port := rfl
@[simp] theorem State.issueHost_notif : s.issueHost.notif = s.notif := rfl
@[simp] theorem State.issueHost_hostBus : s.issueHost.hostBus = s.hostBus := rfl
@[simp] theorem State.issueHost_answers : s.issueHost.answers = s.answers := rfl
@[simp] theorem State.issueHost_pending : s.issueHost.pending = s.pending := rfl

/-! ### unhold -/

@[simp] theorem State.unhold_timeBase (n : Nat) : (s.unhold n).timeBase = s.timeBase := rfl
@[simp] theorem State.unhold_windows (n : Nat) : (s.unhold n).windows = s.windows := rfl
@[simp] theorem State.unhold_pool (n : Nat) : (s.unhold n).pool = s.pool := rfl
@[simp] theorem State.unhold_inflight (n : Nat) : (s.unhold n).inflight = s.inflight := rfl
@[simp] theorem State.unhold_nextOrder (n : Nat) : (s.unhold n).nextOrder = s.nextOrder := rfl
@[simp] theorem State.unhold_holdLimit (n : Nat) : (s.unhold n).holdLimit = s.holdLimit := rfl
@[simp] theorem State.unhold_drainQueue (n : Nat) : (s.unhold n).drainQueue = s.drainQueue := rfl
@[simp] theorem State.unhold_waitList (n : Nat) : (s.unhold n).waitList = s.waitList := rfl
@[simp] theorem State.unhold_outstanding (n : Nat) : (s.unhold n).outstanding = s.outstanding := rfl
@[simp] theorem State.unhold_trackerA (n : Nat) : (s.unhold n).trackerA = s.trackerA := rfl
@[simp] theorem State.unhold_trackerB (n : Nat) : (s.unhold n).trackerB = s.trackerB := rfl
@[simp] theorem State.unhold_sel (n : Nat) : (s.unhold n).sel = s.sel := rfl
@[simp] theorem State.unhold_port (n : Nat) : (s.unhold n).port = s.port := rfl
@[simp] theorem State.unhold_notif (n : Nat) : (s.unhold n).notif = s.notif := rfl
@[simp] theorem State.unhold_hostBus (n : Nat) : (s.unhold n).hostBus = s.hostBus := rfl
@[simp] theorem State.unhold_answers (n : Nat) : (s.unhold n).answers = s.answers := rfl
@[simp] theorem State.unhold_issued (n : Nat) : (s.unhold n).issued = s.issued := rfl
@[simp] theorem State.unhold_pending (n : Nat) : (s.unhold n).pending = s.pending := rfl

/-! ### sendDown -/

@[simp] theorem State.sendDown_timeBase (n : Nat) (p : Purpose) (r : Request) (c : Option (List (Option Byte))) : (s.sendDown n p r c).timeBase = s.timeBase := rfl
@[simp] theorem State.sendDown_windows (n : Nat) (p : Purpose) (r : Request) (c : Option (List (Option Byte))) : (s.sendDown n p r c).windows = s.windows := rfl
@[simp] theorem State.sendDown_pool (n : Nat) (p : Purpose) (r : Request) (c : Option (List (Option Byte))) : (s.sendDown n p r c).pool = s.pool := rfl
@[simp] theorem State.sendDown_nextOrder (n : Nat) (p : Purpose) (r : Request) (c : Option (List (Option Byte))) : (s.sendDown n p r c).nextOrder = s.nextOrder := rfl
@[simp] theorem State.sendDown_holdQueue (n : Nat) (p : Purpose) (r : Request) (c : Option (List (Option Byte))) : (s.sendDown n p r c).holdQueue = s.holdQueue := rfl
@[simp] theorem State.sendDown_holdLimit (n : Nat) (p : Purpose) (r : Request) (c : Option (List (Option Byte))) : (s.sendDown n p r c).holdLimit = s.holdLimit := rfl
@[simp] theorem State.sendDown_drainQueue (n : Nat) (p : Purpose) (r : Request) (c : Option (List (Option Byte))) : (s.sendDown n p r c).drainQueue = s.drainQueue := rfl
@[simp] theorem State.sendDown_outstanding (n : Nat) (p : Purpose) (r : Request) (c : Option (List (Option Byte))) : (s.sendDown n p r c).outstanding = s.outstanding := rfl
@[simp] theorem State.sendDown_trackerA (n : Nat) (p : Purpose) (r : Request) (c : Option (List (Option Byte))) : (s.sendDown n p r c).trackerA = s.trackerA := rfl
@[simp] theorem State.sendDown_trackerB (n : Nat) (p : Purpose) (r : Request) (c : Option (List (Option Byte))) : (s.sendDown n p r c).trackerB = s.trackerB := rfl
@[simp] theorem State.sendDown_sel (n : Nat) (p : Purpose) (r : Request) (c : Option (List (Option Byte))) : (s.sendDown n p r c).sel = s.sel := rfl
@[simp] theorem State.sendDown_port (n : Nat) (p : Purpose) (r : Request) (c : Option (List (Option Byte))) : (s.sendDown n p r c).port = s.port := rfl
@[simp] theorem State.sendDown_notif (n : Nat) (p : Purpose) (r : Request) (c : Option (List (Option Byte))) : (s.sendDown n p r c).notif = s.notif := rfl
@[simp] theorem State.sendDown_hostBus (n : Nat) (p : Purpose) (r : Request) (c : Option (List (Option Byte))) : (s.sendDown n p r c).hostBus = s.hostBus := rfl
@[simp] theorem State.sendDown_answers (n : Nat) (p : Purpose) (r : Request) (c : Option (List (Option Byte))) : (s.sendDown n p r c).answers = s.answers := rfl
@[simp] theorem State.sendDown_issued (n : Nat) (p : Purpose) (r : Request) (c : Option (List (Option Byte))) : (s.sendDown n p r c).issued = s.issued := rfl
@[simp] theorem State.sendDown_pending (n : Nat) (p : Purpose) (r : Request) (c : Option (List (Option Byte))) : (s.sendDown n p r c).pending = s.pending := rfl

/-! ### setTracker -/

@[simp] theorem State.setTracker_timeBase (t : BeatLine) (v : Tracker) : (s.setTracker t v).timeBase = s.timeBase := by cases t <;> rfl
@[simp] theorem State.setTracker_windows (t : BeatLine) (v : Tracker) : (s.setTracker t v).windows = s.windows := by cases t <;> rfl
@[simp] theorem State.setTracker_pool (t : BeatLine) (v : Tracker) : (s.setTracker t v).pool = s.pool := by cases t <;> rfl
@[simp] theorem State.setTracker_inflight (t : BeatLine) (v : Tracker) : (s.setTracker t v).inflight = s.inflight := by cases t <;> rfl
@[simp] theorem State.setTracker_nextOrder (t : BeatLine) (v : Tracker) : (s.setTracker t v).nextOrder = s.nextOrder := by cases t <;> rfl
@[simp] theorem State.setTracker_holdQueue (t : BeatLine) (v : Tracker) : (s.setTracker t v).holdQueue = s.holdQueue := by cases t <;> rfl
@[simp] theorem State.setTracker_holdLimit (t : BeatLine) (v : Tracker) : (s.setTracker t v).holdLimit = s.holdLimit := by cases t <;> rfl
@[simp] theorem State.setTracker_drainQueue (t : BeatLine) (v : Tracker) : (s.setTracker t v).drainQueue = s.drainQueue := by cases t <;> rfl
@[simp] theorem State.setTracker_waitList (t : BeatLine) (v : Tracker) : (s.setTracker t v).waitList = s.waitList := by cases t <;> rfl
@[simp] theorem State.setTracker_outstanding (t : BeatLine) (v : Tracker) : (s.setTracker t v).outstanding = s.outstanding := by cases t <;> rfl
@[simp] theorem State.setTracker_sel (t : BeatLine) (v : Tracker) : (s.setTracker t v).sel = s.sel := by cases t <;> rfl
@[simp] theorem State.setTracker_port (t : BeatLine) (v : Tracker) : (s.setTracker t v).port = s.port := by cases t <;> rfl
@[simp] theorem State.setTracker_notif (t : BeatLine) (v : Tracker) : (s.setTracker t v).notif = s.notif := by cases t <;> rfl
@[simp] theorem State.setTracker_hostBus (t : BeatLine) (v : Tracker) : (s.setTracker t v).hostBus = s.hostBus := by cases t <;> rfl
@[simp] theorem State.setTracker_answers (t : BeatLine) (v : Tracker) : (s.setTracker t v).answers = s.answers := by cases t <;> rfl
@[simp] theorem State.setTracker_issued (t : BeatLine) (v : Tracker) : (s.setTracker t v).issued = s.issued := by cases t <;> rfl
@[simp] theorem State.setTracker_pending (t : BeatLine) (v : Tracker) : (s.setTracker t v).pending = s.pending := by cases t <;> rfl

/-! ### drainIssue -/

@[simp] theorem State.drainIssue_timeBase : s.drainIssue.timeBase = s.timeBase := by unfold State.drainIssue; split <;> rfl
@[simp] theorem State.drainIssue_windows : s.drainIssue.windows = s.windows := by unfold State.drainIssue; split <;> rfl
@[simp] theorem State.drainIssue_inflight : s.drainIssue.inflight = s.inflight := by unfold State.drainIssue; split <;> rfl
@[simp] theorem State.drainIssue_nextOrder : s.drainIssue.nextOrder = s.nextOrder := by unfold State.drainIssue; split <;> rfl
@[simp] theorem State.drainIssue_holdQueue : s.drainIssue.holdQueue = s.holdQueue := by unfold State.drainIssue; split <;> rfl
@[simp] theorem State.drainIssue_holdLimit : s.drainIssue.holdLimit = s.holdLimit := by unfold State.drainIssue; split <;> rfl
@[simp] theorem State.drainIssue_waitList : s.drainIssue.waitList = s.waitList := by unfold State.drainIssue; split <;> rfl
@[simp] theorem State.drainIssue_trackerA : s.drainIssue.trackerA = s.trackerA := by unfold State.drainIssue; split <;> rfl
@[simp] theorem State.drainIssue_trackerB : s.drainIssue.trackerB = s.trackerB := by unfold State.drainIssue; split <;> rfl
@[simp] theorem State.drainIssue_sel : s.drainIssue.sel = s.sel := by unfold State.drainIssue; split <;> rfl
@[simp] theorem State.drainIssue_port : s.drainIssue.port = s.port := by unfold State.drainIssue; split <;> rfl
@[simp] theorem State.drainIssue_notif : s.drainIssue.notif = s.notif := by unfold State.drainIssue; split <;> rfl
@[simp] theorem State.drainIssue_hostBus : s.drainIssue.hostBus = s.hostBus := by unfold State.drainIssue; split <;> rfl
@[simp] theorem State.drainIssue_answers : s.drainIssue.answers = s.answers := by unfold State.drainIssue; split <;> rfl
@[simp] theorem State.drainIssue_pending : s.drainIssue.pending = s.pending := by unfold State.drainIssue; split <;> rfl

/-! ### drainIssueBut -/

@[simp] theorem State.drainIssueBut_timeBase (w : WindowId) : (s.drainIssueBut w).timeBase = s.timeBase := by unfold State.drainIssueBut; split <;> rfl
@[simp] theorem State.drainIssueBut_windows (w : WindowId) : (s.drainIssueBut w).windows = s.windows := by unfold State.drainIssueBut; split <;> rfl
@[simp] theorem State.drainIssueBut_inflight (w : WindowId) : (s.drainIssueBut w).inflight = s.inflight := by unfold State.drainIssueBut; split <;> rfl
@[simp] theorem State.drainIssueBut_nextOrder (w : WindowId) : (s.drainIssueBut w).nextOrder = s.nextOrder := by unfold State.drainIssueBut; split <;> rfl
@[simp] theorem State.drainIssueBut_holdQueue (w : WindowId) : (s.drainIssueBut w).holdQueue = s.holdQueue := by unfold State.drainIssueBut; split <;> rfl
@[simp] theorem State.drainIssueBut_holdLimit (w : WindowId) : (s.drainIssueBut w).holdLimit = s.holdLimit := by unfold State.drainIssueBut; split <;> rfl
@[simp] theorem State.drainIssueBut_waitList (w : WindowId) : (s.drainIssueBut w).waitList = s.waitList := by unfold State.drainIssueBut; split <;> rfl
@[simp] theorem State.drainIssueBut_trackerA (w : WindowId) : (s.drainIssueBut w).trackerA = s.trackerA := by unfold State.drainIssueBut; split <;> rfl
@[simp] theorem State.drainIssueBut_trackerB (w : WindowId) : (s.drainIssueBut w).trackerB = s.trackerB := by unfold State.drainIssueBut; split <;> rfl
@[simp] theorem State.drainIssueBut_sel (w : WindowId) : (s.drainIssueBut w).sel = s.sel := by unfold State.drainIssueBut; split <;> rfl
@[simp] theorem State.drainIssueBut_port (w : WindowId) : (s.drainIssueBut w).port = s.port := by unfold State.drainIssueBut; split <;> rfl
@[simp] theorem State.drainIssueBut_notif (w : WindowId) : (s.drainIssueBut w).notif = s.notif := by unfold State.drainIssueBut; split <;> rfl
@[simp] theorem State.drainIssueBut_hostBus (w : WindowId) : (s.drainIssueBut w).hostBus = s.hostBus := by unfold State.drainIssueBut; split <;> rfl
@[simp] theorem State.drainIssueBut_answers (w : WindowId) : (s.drainIssueBut w).answers = s.answers := by unfold State.drainIssueBut; split <;> rfl
@[simp] theorem State.drainIssueBut_pending (w : WindowId) : (s.drainIssueBut w).pending = s.pending := by unfold State.drainIssueBut; split <;> rfl


/-! ### Windows and trackers by name -/

@[simp] theorem State.window_mk (w : WindowId) : s.windows[w] = s.window w := rfl

theorem State.updWindow_window (w u : WindowId) (f : Window → Window) :
    (s.updWindow w f).window u = if u = w then f (s.window w) else s.window u := by
  unfold State.updWindow State.window
  simp only [Fin.getElem_fin, Vector.getElem_set]
  by_cases h : u = w
  · subst h; simp
  · have : ¬ (w : Nat) = (u : Nat) := fun hh => h (Fin.ext hh.symm)
    simp [h, this]

@[simp] theorem State.updWindow_self (w : WindowId) (f : Window → Window) :
    (s.updWindow w f).window w = f (s.window w) := by simp [State.updWindow_window]

theorem State.updWindow_other {w u : WindowId} (f : Window → Window) (h : u ≠ w) :
    (s.updWindow w f).window u = s.window u := by simp [State.updWindow_window, h]

@[simp] theorem State.setTracker_same (t : BeatLine) (v : Tracker) : (s.setTracker t v).tracker t = v := by
  cases t <;> rfl

theorem State.setTracker_tracker (t u : BeatLine) (v : Tracker) :
    (s.setTracker t v).tracker u = if u = t then v else s.tracker u := by cases t <;> cases u <;> rfl

/-- The states with the same windows have the same window records. -/
theorem State.window_congr {s t : State} (h : t.windows = s.windows) (w : WindowId) : t.window w = s.window w := by
  unfold State.window; rw [h]

/-- The states with the same trackers have the same tracker of a line. -/
theorem State.tracker_congr {s t : State} (ha : t.trackerA = s.trackerA) (hb : t.trackerB = s.trackerB) (u : BeatLine) :
    t.tracker u = s.tracker u := by cases u <;> simp [State.tracker, ha, hb]

@[simp] theorem State.ignoreWrite_window (x : WindowId) : s.ignoreWrite.window x = s.window x :=
  State.window_congr (by simp) x
@[simp] theorem State.refuseBusy_window (x : WindowId) : s.refuseBusy.window x = s.window x :=
  State.window_congr (by simp) x
@[simp] theorem State.notify_window (k : NotifKind) (u : Subject) (l : Option Line) (i : Option Initiator) (x : WindowId) : (s.notify k u l i).window x = s.window x :=
  State.window_congr (by simp) x
@[simp] theorem State.allocate_window (w : WindowId) (l : Line) (x : WindowId) : (s.allocate w l).window x = s.window x :=
  State.window_congr (by simp) x
@[simp] theorem State.merge_window (w : WindowId) (r : Request) (x : WindowId) : (s.merge w r).window x = s.window x :=
  State.window_congr (by simp) x
@[simp] theorem State.freeEntries_window (p : Entry → Bool) (x : WindowId) : (s.freeEntries p).window x = s.window x :=
  State.window_congr (by simp) x
@[simp] theorem State.depart_window (i : Initiator) (x : WindowId) : (s.depart i).window x = s.window x :=
  State.window_congr (by simp) x
@[simp] theorem State.setStatus_window (n : Nat) (st : Status) (x : WindowId) : (s.setStatus n st).window x = s.window x :=
  State.window_congr (by simp) x
@[simp] theorem State.setCapture_window (n : Nat) (c : Option (List (Option Byte))) (x : WindowId) : (s.setCapture n c).window x = s.window x :=
  State.window_congr (by simp) x
@[simp] theorem State.determine_window (n : Nat) (i : Initiator) (a : AnswerForm) (x : WindowId) : (s.determine n i a).window x = s.window x :=
  State.window_congr (by simp) x
@[simp] theorem State.handOver_window (d : HostDown) (x : WindowId) : (s.handOver d).window x = s.window x :=
  State.window_congr (by simp) x
@[simp] theorem State.issueHost_window (x : WindowId) : s.issueHost.window x = s.window x :=
  State.window_congr (by simp) x
@[simp] theorem State.unhold_window (n : Nat) (x : WindowId) : (s.unhold n).window x = s.window x :=
  State.window_congr (by simp) x
@[simp] theorem State.sendDown_window (n : Nat) (p : Purpose) (r : Request) (c : Option (List (Option Byte))) (x : WindowId) : (s.sendDown n p r c).window x = s.window x :=
  State.window_congr (by simp) x
@[simp] theorem State.drainIssue_window (x : WindowId) : s.drainIssue.window x = s.window x :=
  State.window_congr (by simp) x
@[simp] theorem State.drainIssueBut_window (w x : WindowId) : (s.drainIssueBut w).window x = s.window x :=
  State.window_congr (by simp) x
@[simp] theorem State.setTracker_window (t : BeatLine) (v : Tracker) (x : WindowId) : (s.setTracker t v).window x = s.window x :=
  State.window_congr (by simp) x
@[simp] theorem State.updWindow_tracker (w : WindowId) (f : Window → Window) (t : BeatLine) : (s.updWindow w f).tracker t = s.tracker t :=
  State.tracker_congr (by simp) (by simp) t
@[simp] theorem State.ignoreWrite_tracker (t : BeatLine) : s.ignoreWrite.tracker t = s.tracker t :=
  State.tracker_congr (by simp) (by simp) t
@[simp] theorem State.refuseBusy_tracker (t : BeatLine) : s.refuseBusy.tracker t = s.tracker t :=
  State.tracker_congr (by simp) (by simp) t
@[simp] theorem State.notify_tracker (k : NotifKind) (u : Subject) (l : Option Line) (i : Option Initiator) (t : BeatLine) : (s.notify k u l i).tracker t = s.tracker t :=
  State.tracker_congr (by simp) (by simp) t
@[simp] theorem State.allocate_tracker (w : WindowId) (l : Line) (t : BeatLine) : (s.allocate w l).tracker t = s.tracker t :=
  State.tracker_congr (by simp) (by simp) t
@[simp] theorem State.merge_tracker (w : WindowId) (r : Request) (t : BeatLine) : (s.merge w r).tracker t = s.tracker t :=
  State.tracker_congr (by simp) (by simp) t
@[simp] theorem State.freeEntries_tracker (p : Entry → Bool) (t : BeatLine) : (s.freeEntries p).tracker t = s.tracker t :=
  State.tracker_congr (by simp) (by simp) t
@[simp] theorem State.depart_tracker (i : Initiator) (t : BeatLine) : (s.depart i).tracker t = s.tracker t :=
  State.tracker_congr (by simp) (by simp) t
@[simp] theorem State.setStatus_tracker (n : Nat) (st : Status) (t : BeatLine) : (s.setStatus n st).tracker t = s.tracker t :=
  State.tracker_congr (by simp) (by simp) t
@[simp] theorem State.setCapture_tracker (n : Nat) (c : Option (List (Option Byte))) (t : BeatLine) : (s.setCapture n c).tracker t = s.tracker t :=
  State.tracker_congr (by simp) (by simp) t
@[simp] theorem State.determine_tracker (n : Nat) (i : Initiator) (a : AnswerForm) (t : BeatLine) : (s.determine n i a).tracker t = s.tracker t :=
  State.tracker_congr (by simp) (by simp) t
@[simp] theorem State.handOver_tracker (d : HostDown) (t : BeatLine) : (s.handOver d).tracker t = s.tracker t :=
  State.tracker_congr (by simp) (by simp) t
@[simp] theorem State.issueHost_tracker (t : BeatLine) : s.issueHost.tracker t = s.tracker t :=
  State.tracker_congr (by simp) (by simp) t
@[simp] theorem State.unhold_tracker (n : Nat) (t : BeatLine) : (s.unhold n).tracker t = s.tracker t :=
  State.tracker_congr (by simp) (by simp) t
@[simp] theorem State.sendDown_tracker (n : Nat) (p : Purpose) (r : Request) (c : Option (List (Option Byte))) (t : BeatLine) : (s.sendDown n p r c).tracker t = s.tracker t :=
  State.tracker_congr (by simp) (by simp) t
@[simp] theorem State.drainIssue_tracker (t : BeatLine) : s.drainIssue.tracker t = s.tracker t :=
  State.tracker_congr (by simp) (by simp) t
@[simp] theorem State.drainIssueBut_tracker (w : WindowId) (t : BeatLine) : (s.drainIssueBut w).tracker t = s.tracker t :=
  State.tracker_congr (by simp) (by simp) t

end Sys2Proof.Machine
end

