-- ==== Sys2Proof/Laws/Ports.lean ====
section
/-! SUPPORT. What the operations of the two ports can do: the departure of answers (R48), the wait list (R109), and the two issue
rules (R109, R110). -/

namespace Sys2Proof.Machine

/-! ### Departures (R48) -/

/-- What departs is a run of answers to the one initiator. -/
theorem departures_initiator (i : Initiator) (l : List InFlight) : ∀ a ∈ (departures i l).1, a.initiator = i := by
  induction l with
  | nil => simp [departures]
  | cons e es ih =>
    unfold departures
    split
    · split
      · simpa using ih
      · simp
    · simpa using ih

/-- What stays in the list keeps its order. -/
theorem departures_sublist (i : Initiator) (l : List InFlight) : (departures i l).2.Sublist l := by
  induction l with
  | nil => simp [departures]
  | cons e es ih =>
    unfold departures
    split
    · split
      · exact ih.cons e
      · exact List.Sublist.refl _
    · exact ih.cons_cons e

/-- Only READY entries depart: any entries that are not READY all stay. -/
theorem departures_filter (i : Initiator) (l : List InFlight) (q : InFlight → Bool)
    (hq : ∀ e ∈ l, ∀ a, e.status = .ready a → q e = false) : (departures i l).2.filter q = l.filter q := by
  induction l with
  | nil => simp [departures]
  | cons e es ih =>
    have ih := ih fun x hx => hq x (List.mem_cons_of_mem _ hx)
    unfold departures
    split
    · split
      · next a h => rw [ih, List.filter_cons_of_neg (by simp [hq e (by simp) a h])]
      · rfl
    · simp only [List.filter_cons, ih]

/-- The requests of the other initiators are untouched. -/
theorem departures_others {i j : Initiator} (h : j ≠ i) (l : List InFlight) :
    (departures i l).2.filter (fun e => e.request.initiator == j) = l.filter fun e => e.request.initiator == j := by
  induction l with
  | nil => simp [departures]
  | cons e es ih =>
    unfold departures
    split
    · next he =>
      have hne : (e.request.initiator == j) = false := by simp [he, Ne.symm h]
      split
      · rw [ih, List.filter_cons_of_neg (by simp [hne])]
      · rfl
    · simp only [List.filter_cons, ih]

/-- The answers that leave, followed by the initiator's requests that stay, are its requests as they stood (R48). -/
theorem departures_places (i : Initiator) (l : List InFlight) :
    (departures i l).1.map (·.order) ++
        ((departures i l).2.filter fun e => e.request.initiator == i).map (·.order) =
      (l.filter fun e => e.request.initiator == i).map (·.order) := by
  induction l with
  | nil => simp [departures]
  | cons e es ih =>
    unfold departures
    split
    · next he =>
      split
      · simp [he, ← ih]
      · simp
    · next he => simp [he, ih]

theorem State.depart_inflight (s : State) (i : Initiator) : (s.depart i).inflight = (departures i s.inflight).2 := rfl

theorem State.depart_answers (s : State) (i : Initiator) :
    (s.depart i).answers = s.answers ++ (departures i s.inflight).1 := rfl

/-- A departure keeps every initiator's places in take order (R48). -/
@[simp] theorem State.depart_placesOf (s : State) (i j : Initiator) : (s.depart i).placesOf j = s.placesOf j := by
  unfold State.placesOf
  rw [State.depart_inflight, State.depart_answers, List.filter_append, List.map_append]
  by_cases h : j = i
  · subst h
    have hf : ((departures j s.inflight).1.filter fun a => a.initiator == j) = (departures j s.inflight).1 := by
      rw [List.filter_eq_self]; intro a ha; simp [departures_initiator j _ a ha]
    rw [hf, List.append_assoc, departures_places]
  · have hf : ((departures i s.inflight).1.filter fun a => a.initiator == j) = [] := by
      rw [List.filter_eq_nil_iff]; intro a ha; simp [departures_initiator i _ a ha, Ne.symm h]
    rw [hf, departures_others h]; simp

theorem State.setStatus_inflight (s : State) (n : Nat) (st : Status) :
    (s.setStatus n st).inflight = s.inflight.map fun e => if e.order = n then { e with status := st } else e := rfl

theorem State.setCapture_inflight (s : State) (n : Nat) (c : Option (List (Option Byte))) :
    (s.setCapture n c).inflight = s.inflight.map fun e => if e.order = n then { e with capture := c } else e := rfl

/-- A change of entries that keeps their places and requests keeps every initiator's places in take order. -/
theorem placesOf_map (s : State) (f : InFlight → InFlight) (hf : ∀ e, (f e).request = e.request ∧ (f e).order = e.order)
    (j : Initiator) : ({ s with inflight := s.inflight.map f } : State).placesOf j = s.placesOf j := by
  have key : ∀ l : List InFlight,
      ((l.map f).filter fun e => e.request.initiator == j).map (·.order) =
        (l.filter fun e => e.request.initiator == j).map (·.order) := by
    intro l
    induction l with
    | nil => rfl
    | cons e es ih =>
      simp only [List.map_cons, List.filter_cons, (hf e).1]
      split
      · simp only [List.map_cons, (hf e).2, ih]
      · exact ih
  unfold State.placesOf
  rw [key]

@[simp] theorem State.setStatus_placesOf (s : State) (n : Nat) (st : Status) (j : Initiator) :
    (s.setStatus n st).placesOf j = s.placesOf j :=
  placesOf_map s _ (fun e => by split <;> exact ⟨rfl, rfl⟩) j

@[simp] theorem State.setCapture_placesOf (s : State) (n : Nat) (c : Option (List (Option Byte))) (j : Initiator) :
    (s.setCapture n c).placesOf j = s.placesOf j :=
  placesOf_map s _ (fun e => by split <;> exact ⟨rfl, rfl⟩) j

/-- Memory's answer leaves the captures as they are, or, ERROR, discards that of the request it answers (R66). -/
theorem State.keepCapture_cases (s : State) (n : Nat) (a : MemAnswer) :
    s.keepCapture n a = s ∨ (a = .error ∧ s.keepCapture n a = s.setCapture n none) := by
  cases a
  · exact .inl rfl
  · exact .inr ⟨rfl, rfl⟩

@[simp] theorem State.keepCapture_placesOf (s : State) (n : Nat) (a : MemAnswer) (j : Initiator) :
    (s.keepCapture n a).placesOf j = s.placesOf j := by
  obtain h | ⟨-, h⟩ := s.keepCapture_cases n a <;> rw [h]
  exact s.setCapture_placesOf n none j

@[simp] theorem State.determine_placesOf (s : State) (n : Nat) (i j : Initiator) (a : AnswerForm) :
    (s.determine n i a).placesOf j = s.placesOf j := by unfold State.determine; simp

/-! ### The wait list (R109) -/

theorem insertWaiting_perm (d : HostDown) (l : List HostDown) : (insertWaiting d l).Perm (d :: l) := by
  induction l with
  | nil => simp [insertWaiting]
  | cons x xs ih =>
    unfold insertWaiting
    split
    · exact List.Perm.refl _
    · exact (ih.cons x).trans (List.Perm.swap d x xs)

/-- The wait list stays in take order (R109). -/
theorem insertWaiting_sorted (d : HostDown) (l : List HostDown) (hl : (l.map (·.order)).Pairwise (· < ·))
    (hd : ∀ x ∈ l, x.order ≠ d.order) : ((insertWaiting d l).map (·.order)).Pairwise (· < ·) := by
  induction l with
  | nil => simp [insertWaiting]
  | cons x xs ih =>
    simp only [List.map_cons, List.pairwise_cons] at hl
    unfold insertWaiting
    split
    · next h =>
      simp only [List.map_cons, List.pairwise_cons, List.mem_cons, List.mem_map]
      refine ⟨?_, ?_, hl.2⟩
      · rintro a (rfl | ⟨y, hy, rfl⟩)
        · exact h
        · exact lt_trans h (hl.1 _ (List.mem_map_of_mem hy))
      · intro a ⟨y, hy, e⟩; exact e ▸ hl.1 _ (List.mem_map_of_mem hy)
    · next h =>
      have hx : x.order < d.order := lt_of_le_of_ne (Nat.le_of_not_lt h) (hd x (by simp))
      simp only [List.map_cons, List.pairwise_cons, List.mem_map]
      refine ⟨?_, ih hl.2 fun y hy => hd y (List.mem_cons_of_mem _ hy)⟩
      intro a ⟨y, hy, e⟩
      rcases List.mem_cons.mp ((insertWaiting_perm d xs).mem_iff.mp hy) with rfl | hy'
      · exact e ▸ hx
      · exact e ▸ hl.1 _ (List.mem_map_of_mem hy')

/-! ### Issue of host-origin requests (R109) -/

/-- The host-origin requests of the outstanding table. -/
def hostsOf (l : List Outstanding) : List HostDown :=
  l.filterMap fun o =>
    match o with
    | .host d => some d
    | .drain _ => none

theorem State.downstream_eq (s : State) : s.downstream = s.waitList ++ hostsOf s.outstanding := rfl

@[simp] theorem hostsOf_append (l m : List Outstanding) : hostsOf (l ++ m) = hostsOf l ++ hostsOf m := by
  simp [hostsOf]

@[simp] theorem hostsOf_hosts (l : List HostDown) : hostsOf (l.map .host) = l := by
  induction l with
  | nil => rfl
  | cons d l ih => simp [hostsOf] at ih ⊢

@[simp] theorem hostsOf_drains (l : List DrainRef) : hostsOf (l.map .drain) = [] := by
  induction l with
  | nil => rfl
  | cons d l ih => simp [hostsOf] at ih ⊢

theorem State.hostCount_eq (s : State) : s.hostCount = (hostsOf s.outstanding).length := by
  unfold State.hostCount
  induction s.outstanding with
  | nil => rfl
  | cons o l ih => cases o <;> simp_all [hostsOf, Outstanding.isHost]

/-- Issuing moves requests from the wait list to the table and loses none (R109). -/
theorem State.issueHost_downstream (s : State) : s.issueHost.downstream.Perm s.downstream := by
  unfold State.issueHost
  simp only [State.downstream_eq, hostsOf_append, hostsOf_hosts]
  have h := List.take_append_drop (Config.maxHostOutstanding - s.hostCount) s.waitList
  have p := (List.perm_append_comm (l₁ := List.drop (Config.maxHostOutstanding - s.hostCount) s.waitList)
    (l₂ := hostsOf s.outstanding ++ List.take (Config.maxHostOutstanding - s.hostCount) s.waitList))
  rw [List.append_assoc, h] at p
  exact p.trans List.perm_append_comm

/-- At most 12 host-origin requests are outstanding after an issue, and a request waits only at 12 (R108, R109). -/
theorem State.issueHost_hostCount (s : State) (h : s.hostCount ≤ 12) :
    s.issueHost.hostCount ≤ 12 ∧ (s.issueHost.waitList ≠ [] → s.issueHost.hostCount = 12) := by
  have e : s.issueHost.hostCount = s.hostCount + min (12 - s.hostCount) s.waitList.length := by
    rw [State.hostCount_eq s.issueHost]
    simp only [State.issueHost, hostsOf_append, hostsOf_hosts, List.length_append, List.length_take,
      ← State.hostCount_eq]
    rfl
  have w : s.issueHost.waitList = s.waitList.drop (12 - s.hostCount) := rfl
  refine ⟨by omega, fun hw => ?_⟩
  have : 12 - s.hostCount < s.waitList.length := by
    by_contra hc
    exact hw (by rw [w]; exact List.drop_eq_nil_of_le (by omega))
  omega

/-! ### Issue of drain writes (R110, R111) -/

/-- The rule issues at most `k` drain writes, none of an entry that waits, and the queue that is left keeps its order (R110). -/
theorem pickDrains_spec (waits : DrainRef → Bool) (k : Nat) (q : List DrainRef) :
    (pickDrains waits k q).1.length ≤ k ∧ (∀ r ∈ (pickDrains waits k q).1, waits r = false) ∧
      (pickDrains waits k q).1.Sublist q ∧ (pickDrains waits k q).2.Sublist q ∧
      ((pickDrains waits k q).1 ++ (pickDrains waits k q).2).Perm q := by
  induction q generalizing k with
  | nil => cases k <;> simp [pickDrains]
  | cons r q ih =>
    cases k with
    | zero => simp [pickDrains]
    | succ k =>
      unfold pickDrains
      split
      · obtain ⟨h1, h2, h3, h4, h5⟩ := ih (k + 1)
        exact ⟨h1, h2, h3.cons r, h4.cons_cons r, (List.perm_middle).trans (h5.cons r)⟩
      · next hb =>
        obtain ⟨h1, h2, h3, h4, h5⟩ := ih k
        refine ⟨by simpa using h1, ?_, h3.cons_cons r, h4.cons r, h5.cons r⟩
        intro x hx
        rcases List.mem_cons.mp hx with rfl | hx
        · simpa using hb
        · exact h2 x hx

/-- An entry left in the queue waits, or every slot is taken (R110). -/
theorem pickDrains_left (waits : DrainRef → Bool) (k : Nat) (q : List DrainRef) :
    ∀ r ∈ (pickDrains waits k q).2, waits r = true ∨ (pickDrains waits k q).1.length = k := by
  induction q generalizing k with
  | nil => cases k <;> simp [pickDrains]
  | cons r q ih =>
    cases k with
    | zero => simp [pickDrains]
    | succ k =>
      unfold pickDrains
      split
      · next hb =>
        intro x hx
        rcases List.mem_cons.mp hx with rfl | hx
        · exact .inl hb
        · exact ih (k + 1) x hx
      · intro x hx
        rcases ih k x hx with h | h
        · exact .inl h
        · exact .inr (by simpa using h)

/-- Of the entries that all wait the queue keeps every one, in its place (R110). -/
theorem pickDrains_keeps (waits p : DrainRef → Bool) (hp : ∀ r, p r = true → waits r = true) (k : Nat) (q : List DrainRef) :
    (pickDrains waits k q).2.filter p = q.filter p := by
  induction q generalizing k with
  | nil => cases k <;> rfl
  | cons r q ih =>
    cases k with
    | zero => rfl
    | succ k =>
      unfold pickDrains
      split
      · simp only [List.filter_cons, ih (k + 1)]
      · next hw =>
        have : p r = false := by
          cases h : p r
          · rfl
          · exact absurd (hp r h) hw
        simp only [List.filter_cons, this, ih k, Bool.false_eq_true, if_false]

/-- The issue rule adds only drain writes to the table (R110). -/
@[simp] theorem State.drainIssue_downstream (s : State) : s.drainIssue.downstream = s.downstream := by
  unfold State.drainIssue State.issuePicked
  split
  · rfl
  · simp [State.downstream_eq]

@[simp] theorem State.drainIssue_hostCount (s : State) : s.drainIssue.hostCount = s.hostCount := by
  rw [State.hostCount_eq, State.hostCount_eq]
  unfold State.drainIssue State.issuePicked
  split <;> simp

/-- An issue of entries that fit in the free slots leaves at most 4 drain writes outstanding (R108). -/
theorem State.issuePicked_drainCount (s : State) (x : List DrainRef × List DrainRef) (h : s.drainCount ≤ 4)
    (hx : x.1.length ≤ s.drainRoom) : (s.issuePicked x).drainCount ≤ 4 := by
  have hr : s.drainRoom ≤ 4 - s.drainCount := Nat.min_le_left _ _
  have hc : ∀ l : List DrainRef, (l.map Outstanding.drain).countP (!·.isHost) = l.length := by
    intro l
    induction l with
    | nil => rfl
    | cons a l ih => simp only [List.map_cons, List.countP_cons, ih]; rfl
  unfold State.drainCount State.issuePicked at *
  simp only [List.countP_append, hc]
  omega

/-- At most 4 drain writes are outstanding after an issue (R108). -/
theorem State.drainIssue_drainCount (s : State) (h : s.drainCount ≤ 4) : s.drainIssue.drainCount ≤ 4 := by
  unfold State.drainIssue
  split
  · exact h
  · exact s.issuePicked_drainCount _ h (pickDrains_spec _ _ _).1

@[simp] theorem State.drainIssueBut_downstream (s : State) (w : WindowId) : (s.drainIssueBut w).downstream = s.downstream := by
  unfold State.drainIssueBut State.issuePicked
  split
  · rfl
  · simp [State.downstream_eq]

@[simp] theorem State.drainIssueBut_hostCount (s : State) (w : WindowId) : (s.drainIssueBut w).hostCount = s.hostCount := by
  rw [State.hostCount_eq, State.hostCount_eq]
  unfold State.drainIssueBut State.issuePicked
  split <;> simp

/-- The issue rule that passes over the entries of `w` keeps all of them in the queue, in their order, issues no drain write of `w`, and
leaves at most 4 drain writes outstanding (R108, R120). -/
theorem State.drainIssueBut_spec (s : State) (w : WindowId) :
    (s.drainIssueBut w).drainQueue.filter (·.window == w) = s.drainQueue.filter (·.window == w) ∧
      (∀ r : DrainRef, r.window = w → (Outstanding.drain r ∈ (s.drainIssueBut w).outstanding ↔ Outstanding.drain r ∈ s.outstanding)) ∧
      (s.drainCount ≤ 4 → (s.drainIssueBut w).drainCount ≤ 4) := by
  unfold State.drainIssueBut
  split
  · exact ⟨rfl, fun _ _ => Iff.rfl, id⟩
  · refine ⟨pickDrains_keeps _ _ (fun r h => by simp_all) _ _, fun r hr => ?_,
      fun h => s.issuePicked_drainCount _ h (pickDrains_spec _ _ _).1⟩
    have := (pickDrains_spec (fun r => s.lineBusy r.line || r.window == w) s.drainRoom s.drainQueue).2.1 r
    simp only [State.issuePicked, List.mem_append, List.mem_map, Outstanding.drain.injEq, exists_eq_right]
    exact ⟨fun h => h.elim id fun h => by simpa [hr] using this h, Or.inl⟩

/-- A busy line's drain write is not issued (R111). -/
theorem State.drainIssue_busy (s : State) (r : DrainRef) (h : s.lineBusy r.line = true) :
    Outstanding.drain r ∈ s.drainIssue.outstanding ↔ Outstanding.drain r ∈ s.outstanding := by
  unfold State.drainIssue State.issuePicked
  split
  · rfl
  · have := (pickDrains_spec (fun r => s.lineBusy r.line) s.drainRoom s.drainQueue).2.1 r
    simp only [List.mem_append, List.mem_map, Outstanding.drain.injEq, exists_eq_right]
    constructor
    · rintro (hr | hr)
      · exact hr
      · exact absurd h (by simp [this hr])
    · exact Or.inl

/-- A change of drain status leaves the entry's window, line, bytes and place. -/
@[simp] theorem Entry.withStatus_window (e : Entry) (st : DrainStatus) : (e.withStatus st).window = e.window := by
  unfold Entry.withStatus; split <;> rfl
@[simp] theorem Entry.withStatus_line (e : Entry) (st : DrainStatus) : (e.withStatus st).line = e.line := by
  unfold Entry.withStatus; split <;> rfl
@[simp] theorem Entry.withStatus_cells (e : Entry) (st : DrainStatus) : (e.withStatus st).cells = e.cells := by
  unfold Entry.withStatus; split <;> rfl
@[simp] theorem Entry.withStatus_errorMet (e : Entry) (st : DrainStatus) : (e.withStatus st).errorMet = e.errorMet := by
  unfold Entry.withStatus; split <;> simp_all [Entry.errorMet]
@[simp] theorem Entry.withStatus_isPending (e : Entry) (st : DrainStatus) :
    (e.withStatus st).isPending = e.isPending := by
  unfold Entry.withStatus; split <;> simp_all [Entry.isPending]

end Sys2Proof.Machine
end

