-- ==== Sys2Proof/Laws/Store.lean ====
section
/-! SUPPORT. What the operations of the notification unit (R173) and of the staging store (R30, R32, R39) can do. -/

namespace Sys2Proof.Machine

/-! ### Notifications (R173) -/

theorem satInc_le (n : Nat) (h : n ≤ 65535) : satInc n ≤ 65535 := by
  unfold satInc Config.counterLimit; split <;> omega

/-- A counter that saturates, in one expression (R2). -/
theorem satInc_eq (n : Nat) : satInc n = min (n + 1) (max 65535 n) := by
  unfold satInc Config.counterLimit; split <;> omega

/-- Coalescing keeps every record's kind and subject, and their order (R173). -/
theorem coalesce_keys (k : NotifKind) (u : Subject) (l : List NotifRecord) :
    (coalesce k u l).map (fun x => (x.kind, x.subject)) = l.map fun x => (x.kind, x.subject) := by
  induction l with
  | nil => rfl
  | cons x l ih =>
    unfold coalesce
    split
    · rfl
    · simp [ih]

theorem coalesce_length (k : NotifKind) (u : Subject) (l : List NotifRecord) : (coalesce k u l).length = l.length := by
  simpa using congrArg List.length (coalesce_keys k u l)

/-- No two records of the list share a key exactly when the list of their keys has no repeats. -/
theorem pairwise_keys (l : List NotifRecord) :
    (l.Pairwise fun x y => ¬ x.sameKey y) ↔ (l.map fun x => (x.kind, x.subject)).Nodup := by
  simp [List.Nodup, List.pairwise_map, NotifRecord.sameKey, Prod.ext_iff]

/-- What recording can do: nothing, when masked; coalesce behind the head; a new record at the tail; or an overflow (R173). -/
theorem Notifier.record_cases (n : Notifier) (x : NotifRecord) :
    (n.record x = n ∧ n.mask.getLsbD x.kind.code = false) ∨
    (n.record x = { n with queue := n.queue.take 1 ++ coalesce x.kind x.subject n.queue.tail } ∧
      ∃ y ∈ n.queue.tail, y.isFor x.kind x.subject = true) ∨
    (n.record x = { n with queue := n.queue ++ [x] } ∧ n.queue.length < 32 ∧
      ∀ y ∈ n.queue.tail, y.isFor x.kind x.subject = false) ∨
    (n.record x = { n with overflow := satInc n.overflow } ∧ 32 ≤ n.queue.length ∧
      ∀ y ∈ n.queue.tail, y.isFor x.kind x.subject = false) := by
  unfold Notifier.record
  split
  · next h => exact .inl ⟨rfl, by simpa using h⟩
  · split
    · next h => exact .inr (.inl ⟨rfl, by simpa using h⟩)
    · next h =>
      have h' : ∀ y ∈ n.queue.tail, y.isFor x.kind x.subject = false := by simpa using h
      split
      · next hl => exact .inr (.inr (.inl ⟨rfl, hl, h'⟩))
      · next hl => exact .inr (.inr (.inr ⟨rfl, by simpa [Config.maxRecords] using hl, h'⟩))

/-- Recording keeps the law of the queue (R172). -/
theorem Notifier.record_lawful (n : Notifier) (x : NotifRecord) (h : n.lawful) : (n.record x).lawful := by
  obtain ⟨h1, h2⟩ := h
  rcases n.record_cases x with ⟨e, -⟩ | ⟨e, -⟩ | ⟨e, hl, hn⟩ | ⟨e, -, -⟩
  · rw [e]; exact ⟨h1, h2⟩
  · rw [e]
    rcases hq : n.queue with _ | ⟨a, q⟩
    · simp [Notifier.lawful, coalesce]
    · rw [hq] at h1 h2
      refine ⟨by simpa [coalesce_length, Nat.add_comm] using h1, ?_⟩
      rw [pairwise_keys]
      simp only [List.take_succ_cons, List.take_zero, List.tail_cons, List.cons_append, List.nil_append, coalesce_keys]
      exact (pairwise_keys q).mp h2
  · rw [e]
    rcases hq : n.queue with _ | ⟨a, q⟩
    · simp [Notifier.lawful]
    · rw [hq] at h1 h2 hl hn
      refine ⟨by simp at hl ⊢; omega, ?_⟩
      simp only [List.cons_append, List.tail_cons] at h2 hn ⊢
      rw [List.pairwise_append]
      refine ⟨h2, by simp, fun y hy z hz => ?_⟩
      have hz : z = x := by simpa using hz
      subst hz
      have := hn y hy
      simpa [NotifRecord.isFor, NotifRecord.sameKey] using this
  · rw [e]; exact ⟨h1, h2⟩

/-- Recording leaves the mask and the interrupt enable (R171, R178). -/
@[simp] theorem Notifier.record_mask (n : Notifier) (x : NotifRecord) : (n.record x).mask = n.mask := by
  rcases n.record_cases x with ⟨e, -⟩ | ⟨e, -⟩ | ⟨e, -⟩ | ⟨e, -⟩ <;> rw [e]
@[simp] theorem Notifier.record_intEnable (n : Notifier) (x : NotifRecord) : (n.record x).intEnable = n.intEnable := by
  rcases n.record_cases x with ⟨e, -⟩ | ⟨e, -⟩ | ⟨e, -⟩ | ⟨e, -⟩ <;> rw [e]

theorem State.notify_notif (s : State) (k : NotifKind) (u : Subject) (l : Option Line) (i : Option Initiator) :
    (s.notify k u l i).notif = s.notif.record ⟨k, u, s.sel.beatNumber, l, i, 1⟩ := rfl

/-! ### What an entry is, in a pool whose entries are changed one by one -/

/-- The window, line and generation kind of an entry: what the counts and the uniqueness of the pool look at (R23, R27). -/
def Entry.key (e : Entry) : WindowId × Line × Bool := (e.window, e.line, e.isPending)

theorem State.inUse_congr {s t : State} (h : t.pool.map Entry.key = s.pool.map Entry.key) (w : WindowId) :
    t.inUse w = s.inUse w := by
  have f : ∀ l : List Entry, (l.countP fun e => e.window == w) = (l.map Entry.key).countP fun k => k.1 == w := by
    intro l; rw [List.countP_map]; rfl
  unfold State.inUse; rw [f, f, h]

theorem State.inUse_allocate (s : State) (w u : WindowId) (l : Line) :
    (s.allocate w l).inUse u = s.inUse u + if u = w then 1 else 0 := by
  unfold State.inUse State.allocate
  simp only [List.countP_append, List.countP_singleton, beq_iff_eq]
  simp [eq_comm]

theorem mergeCells_length (v : Window) (r : Request) (c : List (Option Byte)) : (mergeCells v r c).length = 64 := by
  simp [mergeCells]

/-- After a merge each position holds the byte the write stages there, or what it held (R32, R33). -/
theorem mergeCells_get (v : Window) (r : Request) (cells : List (Option Byte)) (p : Nat)
    (hp : p < 64) : (mergeCells v r cells)[p]? = some ((v.stagedByte r p).or (cells[p]?).join) := by
  simp only [mergeCells, List.getElem?_map, List.getElem?_range hp, Option.map_some]
  cases v.stagedByte r p <;> rfl

/-- A merge changes bytes alone (R32). -/
theorem State.merge_keys (s : State) (w : WindowId) (r : Request) :
    (s.merge w r).pool.map Entry.key = s.pool.map Entry.key := by
  unfold State.merge
  simp only [List.map_map]
  refine List.map_congr_left fun e _ => ?_
  simp only [Function.comp_apply]
  split <;> rfl

/-- An issue changes drain statuses alone (R110). -/
theorem State.issuePicked_keys (s : State) (x : List DrainRef × List DrainRef) :
    (s.issuePicked x).pool.map Entry.key = s.pool.map Entry.key := by
  unfold State.issuePicked
  simp only [List.map_map]
  refine List.map_congr_left fun e _ => ?_
  simp only [Function.comp_apply]
  split
  · simp [Entry.key]
  · rfl

/-- The issue rule changes drain statuses alone (R110). -/
theorem State.drainIssue_keys (s : State) : s.drainIssue.pool.map Entry.key = s.pool.map Entry.key := by
  unfold State.drainIssue
  split
  · rfl
  · exact s.issuePicked_keys _

/-- So does the rule that passes over the entries of `w` (R120). -/
theorem State.drainIssueBut_keys (s : State) (w : WindowId) : (s.drainIssueBut w).pool.map Entry.key = s.pool.map Entry.key := by
  unfold State.drainIssueBut
  split
  · rfl
  · exact s.issuePicked_keys _

@[simp] theorem State.merge_inUse (s : State) (w u : WindowId) (r : Request) : (s.merge w r).inUse u = s.inUse u :=
  State.inUse_congr (s.merge_keys w r) u

@[simp] theorem State.drainIssue_inUse (s : State) (u : WindowId) : s.drainIssue.inUse u = s.inUse u :=
  State.inUse_congr s.drainIssue_keys u

@[simp] theorem State.drainIssueBut_inUse (s : State) (w u : WindowId) : (s.drainIssueBut w).inUse u = s.inUse u :=
  State.inUse_congr (s.drainIssueBut_keys w) u

theorem State.freeEntries_pool (s : State) (p : Entry → Bool) :
    (s.freeEntries p).pool = s.pool.filter fun e => !p e := rfl

/-- A free lowers the in-use of the windows whose entries it frees, and no other (R39). -/
theorem State.freeEntries_inUse (s : State) (p : Entry → Bool) (u : WindowId) :
    (s.freeEntries p).inUse u + s.pool.countP (fun e => p e && e.window == u) = s.inUse u := by
  unfold State.inUse
  rw [State.freeEntries_pool]
  induction s.pool with
  | nil => rfl
  | cons e l ih =>
    by_cases hp : p e = true <;> by_cases hw : e.window = u <;>
      simp [hp, hw] at ih ⊢ <;> omega

end Sys2Proof.Machine
end

