-- ==== Sys2Proof/Laws/Steering.lean ====
section
/-! SUPPORT. What a classification can do to the state (R49 to R65): a principle for properties that each of its updates keeps, and the
parts of the state that it leaves as they were. -/

namespace Sys2Proof.Machine

/-- What steering may do to the record of a window: it is ACTIVE, and its write count, ready flag, torn flag and exhaustions
change, the counts by one at most, and the ready flag sets in COUNT and MARK mode only (R6, R61, R65). -/
structure SteeringUpdate (s : State) (w : WindowId) (f : Window → Window) : Prop where
  active : (s.window w).state = .active
  fields : f (s.window w) =
    { s.window w with
      writeCount := (f (s.window w)).writeCount
      ready := (f (s.window w)).ready
      torn := (f (s.window w)).torn
      exhaustions := (f (s.window w)).exhaustions }
  count : (f (s.window w)).writeCount = (s.window w).writeCount ∨
    (f (s.window w)).writeCount = satInc (s.window w).writeCount
  met : (f (s.window w)).exhaustions = (s.window w).exhaustions ∨
    (f (s.window w)).exhaustions = satInc (s.window w).exhaustions
  sets : (f (s.window w)).ready = true → (s.window w).ready = true ∨ (s.window w).desc.readiness ≠ .any

/-- A property that steering's updates keep. -/
structure SteeringKeeps (P : State → Prop) : Prop where
  notify : ∀ s k u l i, P s → P (s.notify k u l i)
  update : ∀ s w f, SteeringUpdate s w f → P s → P (s.updWindow w f)
  allocate : ∀ s w l, (s.window w).state = .active → s.allocOk w = true → s.pendingEntry w l = none → P s →
    P (s.allocate w l)
  merge : ∀ s w r, (s.window w).state = .active → P s → P (s.merge w r)

variable {P : State → Prop} (k : SteeringKeeps P)
include k

theorem stagedDone_keeps (s : State) (w : WindowId) (m a x : Bool) (ha : (s.window w).state = .active)
    (hs : P s) : P (stagedDone s w m a x).state := by
  unfold stagedDone
  dsimp only
  refine k.update _ _ _ ?_ hs
  refine ⟨ha, rfl, .inr rfl, .inl rfl, ?_⟩
  intro hr
  rcases h : (s.window w).desc.readiness with _ | _ | _
  · simp only [h, Bool.or_false] at hr; exact .inl hr
  · right; simp
  · right; simp

theorem bypassWrite_keeps (s : State) (w : WindowId) (r : Request) (m : Bool) (ha : (s.window w).state = .active)
    (hm : m = true → (s.window w).desc.readiness = .mark) (hs : P s) : P (bypassWrite s w r m).state := by
  unfold bypassWrite
  have up : ∀ t : State, t.windows = s.windows → P t →
      P (t.updWindow w fun v => { v with torn := true, ready := v.ready || m }) := by
    intro t ht hp
    have hw : t.window w = s.window w := State.window_congr ht w
    refine k.update _ _ _ ⟨by rw [hw]; exact ha, rfl, .inl rfl, .inl rfl, ?_⟩ hp
    intro hr
    rw [hw] at hr ⊢
    rcases Bool.or_eq_true_iff.mp hr with h | h
    · exact .inl h
    · right; simp [hm h]
  dsimp only
  split
  · exact up s rfl hs
  · exact up _ rfl (k.notify _ _ _ _ _ hs)

theorem exhaust_keeps (s : State) (w : WindowId) (r : Request) (m x : Bool) (ha : (s.window w).state = .active)
    (hm : m = true → (s.window w).desc.readiness = .mark) (hs : P s) : P (exhaust s w r m x).state := by
  have up : P ((s.updWindow w fun v => { v with exhaustions := satInc v.exhaustions }).notify .exhausted (.window w)
      (some r.line) (some r.initiator)) :=
    k.notify _ _ _ _ _ (k.update _ _ _ ⟨ha, rfl, .inl rfl, .inr rfl, fun h => .inl h⟩ hs)
  unfold exhaust
  dsimp only
  cases x <;> simp only [Bool.false_eq_true, ↓reduceIte]
  · rcases (s.window w).desc.exhaustion with _ | _ | _
    · exact up
    · dsimp only
      split
      · exact up
      · refine bypassWrite_keeps k _ w r m (by simpa using ha) ?_ up
        simpa using hm
    · exact up
  · rcases (s.window w).desc.exhaustion with _ | _ | _
    · exact hs
    · dsimp only
      split
      · exact hs
      · exact bypassWrite_keeps k s w r m ha hm hs
    · exact hs

theorem stageWrite_keeps (s : State) (w : WindowId) (r : Request) (m x : Bool) (ha : (s.window w).state = .active)
    (hm : m = true → (s.window w).desc.readiness = .mark) (hs : P s) : P (stageWrite s w r m x).state := by
  unfold stageWrite
  split
  · exact stagedDone_keeps k _ w m _ x (by simpa using ha) (k.merge _ _ _ ha hs)
  · next hn =>
    split
    · next hok =>
      refine stagedDone_keeps k _ w m _ x (by simpa using ha) (k.merge _ _ _ (by simpa using ha) ?_)
      exact k.allocate _ _ _ ha hok (by simpa using hn) hs
    · exact exhaust_keeps k s w r m x ha hm hs

theorem tallyWrite_keeps (s : State) (w : WindowId) (r : Request) (x : Bool) (ha : (s.window w).state = .active)
    (hs : P s) : P (tallyWrite s w r x).state := by
  unfold tallyWrite
  dsimp only
  rcases h : (s.window w).desc.readiness with _ | _ | _
  · exact k.notify _ _ _ _ _ hs
  · exact k.notify _ _ _ _ _ hs
  · dsimp only
    split
    · exact hs
    · split
      · exact stageWrite_keeps k s w r true x ha (fun _ => h) hs
      · dsimp only
        refine k.update _ _ _ ?_ hs
        exact ⟨ha, rfl, .inl rfl, .inl rfl, fun _ => .inr (by simp [h])⟩

theorem steerWrite_keeps (s : State) (w : WindowId) (r : Request) (x : Bool) (hs : P s) :
    P (steerWrite s w r x).state := by
  unfold steerWrite
  dsimp only
  split
  · exact k.notify _ _ _ _ _ hs
  · rcases h : (s.window w).state with _ | _ | _ | _
    · exact hs
    · dsimp only
      split
      · exact tallyWrite_keeps k s w r x h hs
      · split
        · exact hs
        · exact stageWrite_keeps k s w r false x h (fun hh => by cases hh) hs
    · exact hs
    · exact hs

/-- A classification keeps what each update of steering keeps (R49 to R65). -/
theorem classify_keeps (s : State) (n : Nat) (r : Request) (tw : Option WindowId) (x : Bool) (hs : P s) :
    P (classify s n r tw x).state := by
  unfold classify
  split
  · exact hs
  · split
    · exact hs
    · unfold steerInWindow
      split
      · exact k.notify _ _ _ _ _ hs
      · unfold steerRead; split <;> exact hs
      · exact steerWrite_keeps k s _ r x hs

omit k

/-- A classification changes the windows, the pool and the notifications alone. -/
theorem classify_frame (s : State) (n : Nat) (r : Request) (tw : Option WindowId) (x : Bool) :
    s.sameButStore (classify s n r tw x).state := by
  refine classify_keeps (P := fun t => s.sameButStore t) ⟨?_, ?_, ?_, ?_⟩ s n r tw x rfl
  · intro t _ _ _ _ h; unfold State.sameButStore at *; rw [h]; rfl
  · intro t _ _ _ h; unfold State.sameButStore at *; rw [h]; rfl
  · intro t _ _ _ _ _ h; unfold State.sameButStore at *; rw [h]; rfl
  · intro t _ _ _ h; unfold State.sameButStore at *; rw [h]; rfl

/-- A classification changes nothing of a window but its write count, ready flag, torn flag and exhaustions, and nothing of
a window that is not ACTIVE (R50). -/
theorem classify_window (s : State) (n : Nat) (r : Request) (tw : Option WindowId) (x : Bool) (w : WindowId) :
    let v := (classify s n r tw x).state.window w
    v = { s.window w with writeCount := v.writeCount, ready := v.ready, torn := v.torn, exhaustions := v.exhaustions } ∧
      ((s.window w).state ≠ .active → v = s.window w) := by
  refine classify_keeps (P := fun t =>
    t.window w = { s.window w with
        writeCount := (t.window w).writeCount, ready := (t.window w).ready, torn := (t.window w).torn,
        exhaustions := (t.window w).exhaustions } ∧
      ((s.window w).state ≠ .active → t.window w = s.window w)) ⟨?_, ?_, ?_, ?_⟩ s n r tw x ⟨rfl, fun _ => rfl⟩
  · intro t _ _ _ _ h; simpa using h
  · intro t u f hf h
    by_cases e : w = u
    · subst e
      have hfields := hf.fields
      have hact : (s.window w).state = .active := by
        have := hf.active; rw [h.1] at this; exact this
      refine ⟨?_, fun hn => absurd hact hn⟩
      rw [State.updWindow_self, hfields, h.1]
    · rw [State.updWindow_other t f e]; exact h
  · intro t _ _ _ _ _ h; simpa using h
  · intro t _ _ _ h; simpa using h

/-! ### What a classification sends to memory -/

@[simp] theorem Window.withoutTally_initiator (v : Window) (r : Request) :
    (v.withoutTally r).initiator = r.initiator := by unfold Window.withoutTally; split <;> rfl

@[simp] theorem Window.withoutTally_address (v : Window) (r : Request) :
    (v.withoutTally r).address = r.address := by unfold Window.withoutTally; split <;> rfl

@[simp] theorem Window.withoutTally_line (v : Window) (r : Request) : (v.withoutTally r).line = r.line := by
  simp [Request.line]

/-- The request a verdict sends to memory keeps the initiator and the address of `r`. -/
def Verdict.sendsOf (r : Request) : Verdict → Prop
  | .send _ d _ => d.initiator = r.initiator ∧ d.address = r.address
  | _ => True

theorem stageWrite_sendsOf (s : State) (w : WindowId) (r : Request) (m x : Bool) :
    (stageWrite s w r m x).verdict.sendsOf r := by
  unfold stageWrite
  split
  · trivial
  · split
    · trivial
    · unfold exhaust
      dsimp only
      split
      · trivial
      · trivial
      · split
        · trivial
        · exact ⟨by simp, by simp⟩

/-- What a classification sends to memory is the request, or the request less its tally flags (R53, R55, R65). -/
theorem classify_sendsOf (s : State) (n : Nat) (r : Request) (tw : Option WindowId) (x : Bool) :
    (classify s n r tw x).verdict.sendsOf r := by
  unfold classify
  split
  · trivial
  · split
    · exact ⟨rfl, rfl⟩
    · unfold steerInWindow
      split
      · trivial
      · unfold steerRead; split
        · trivial
        · exact ⟨rfl, rfl⟩
      · unfold steerWrite
        dsimp only
        split
        · trivial
        · split
          · exact ⟨rfl, rfl⟩
          · trivial
          · trivial
          · split
            · unfold tallyWrite
              dsimp only
              split
              · split
                · trivial
                · split
                  · exact stageWrite_sendsOf _ _ _ _ _
                  · trivial
              · trivial
              · trivial
            · split
              · trivial
              · exact stageWrite_sendsOf _ _ _ _ _

end Sys2Proof.Machine
end

