-- ==== Sys2Proof/Laws/HoldQueue.lean ====
section
/-! SUPPORT. What a re-examination and the close of an event can do (R75, R76, R88, R109, R110): principles for the properties that each of
their updates keeps, and the parts of the state that they leave as they were. -/

namespace Sys2Proof.Machine

/-- The held request given another reason, in its place (R73). -/
def State.rehold (s : State) (n : Nat) (reason : HoldReason) (w : Option WindowId) (met : Bool) : State :=
  { s with holdQueue := s.holdQueue.map fun g =>
      if g.order = n then { g with reason := reason, window := w, line := g.request.line, exhaustionMet := met } else g }

/-- A property that each update of a pass keeps. -/
structure PassKeeps (P : State → Prop) : Prop extends SteeringKeeps P where
  rehold : ∀ s h reason w met, h ∈ s.holdQueue → P s → P (s.rehold h.order reason w met)
  answer : ∀ s h a c, h ∈ s.holdQueue → P s →
    P (((s.unhold h.order).setCapture h.order c).determine h.order h.request.initiator a)
  send : ∀ s h p r c, h ∈ s.holdQueue → r.initiator = h.request.initiator → r.address = h.request.address → P s →
    P ((s.unhold h.order).sendDown h.order p r c)

/-- The held request is classified afresh and released, or held again (R73, R75, R76). -/
def State.reclassify (s : State) (h : Held) : State :=
  release h (classify s h.order h.request ((s.inflightAt h.order).bind (·.window)) h.exhaustionMet)

theorem State.reclassify_keeps {P : State → Prop} (k : PassKeeps P) (s : State) (h : Held) (hm : h ∈ s.holdQueue)
    (hs : P s) : P (s.reclassify h) := by
  unfold State.reclassify
  generalize hx : classify s h.order h.request ((s.inflightAt h.order).bind (·.window)) h.exhaustionMet = x
  have hP : P x.state := hx ▸ classify_keeps k.toSteeringKeeps s _ _ _ _ hs
  have hf : s.sameButStore x.state := hx ▸ classify_frame s _ _ _ _
  have hq : h ∈ x.state.holdQueue := by unfold State.sameButStore at hf; rw [hf]; exact hm
  have hv : x.verdict.sendsOf h.request := hx ▸ classify_sendsOf s _ _ _ _
  unfold release
  split
  · exact k.rehold _ _ _ _ _ hq hP
  · exact k.answer _ _ _ _ hq hP
  · next hvv => rw [hvv] at hv; exact k.send _ _ _ _ _ hq hv.1 hv.2 hP

/-! ### Passes -/

/-- What the pass does when it comes to a request: nothing, or the request is triggered, no longer in force, and classified
afresh (R75). -/
theorem Pass.reach_cases (p : Pass) (n : Nat) :
    p.reach n = p ∨
      ∃ h ∈ p.state.holdQueue, h.order = n ∧ n ∈ p.trig ∧ p.state.inForce h = false ∧
        (p.reach n).state = p.state.reclassify h := by
  unfold Pass.reach
  split
  · next ht =>
    split
    · exact .inl rfl
    · next h hf =>
      split
      · exact .inl rfl
      · next hif =>
        have h1 := List.find?_some hf
        have h2 := List.mem_of_find?_eq_some hf
        simp only [beq_iff_eq] at h1
        refine .inr ⟨h, h2, h1, by simpa using ht, by simpa using hif, ?_⟩
        unfold State.reclassify; rw [h1]
  · exact .inl rfl

theorem Pass.reach_keeps {P : State → Prop}
    (k : ∀ s h, h ∈ s.holdQueue → s.inForce h = false → P s → P (s.reclassify h)) (p : Pass) (n : Nat) (hp : P p.state) :
    P (p.reach n).state := by
  rcases p.reach_cases n with e | ⟨h, hm, -, -, hf, e⟩
  · rw [e]; exact hp
  · rw [e]; exact k _ _ hm hf hp

theorem Pass.run_keeps {P : State → Prop}
    (k : ∀ s h, h ∈ s.holdQueue → s.inForce h = false → P s → P (s.reclassify h)) (p : Pass) (hp : P p.state) :
    P p.run.state := by
  unfold Pass.run
  generalize p.state.holdQueue.map (·.order) = l
  induction l generalizing p with
  | nil => exact hp
  | cons n l ih => exact ih _ (Pass.reach_keeps k p n hp)

theorem Pass.runAll_keeps {P : State → Prop}
    (k : ∀ s h, h ∈ s.holdQueue → s.inForce h = false → P s → P (s.reclassify h)) (m : Nat) (p : Pass) (hp : P p.state) :
    P (Pass.runAll m p).state := by
  induction m generalizing p with
  | zero => exact hp
  | succ m ih =>
    unfold Pass.runAll
    dsimp only
    split
    · exact Pass.run_keeps k p hp
    · exact ih _ (Pass.run_keeps k p hp)

theorem State.reexamine_keeps {P : State → Prop}
    (k : ∀ s h, h ∈ s.holdQueue → s.inForce h = false → P s → P (s.reclassify h)) (s : State) (t : List Nat) (hs : P s) :
    P (s.reexamine t).state := Pass.runAll_keeps k _ _ hs

/-- The close of an event keeps what a re-examined request, the issue of host-origin requests and the drain engine's issue rule
keep (R75, R109, R110). -/
theorem State.closeEvent_keeps {P : State → Prop}
    (k : ∀ s h, h ∈ s.holdQueue → s.inForce h = false → P s → P (s.reclassify h)) (hi : ∀ s : State, P s → P s.issueHost)
    (hd : ∀ s : State, P s → P s.drainIssue) (s : State) (d snt : Bool) (t : List Nat) (hs : P s) :
    P (s.closeEvent d snt t) := by
  have h := State.reexamine_keeps k s t hs
  unfold State.closeEvent
  dsimp only
  split <;> split
  · exact hd _ (hi _ h)
  · exact hd _ h
  · exact hi _ h
  · exact h

/-! ### Events that trigger nothing -/

/-- A pass over requests of which none is triggered changes nothing (R75). -/
theorem Pass.run_nothing (p : Pass) (h : p.trig = []) : p.run = p := by
  unfold Pass.run
  generalize p.state.holdQueue.map (·.order) = l
  induction l with
  | nil => rfl
  | cons n l ih =>
    have : p.reach n = p := by simp [Pass.reach, h]
    simpa [this] using ih

theorem State.reexamine_nothing (s : State) : s.reexamine [] = ⟨s, [], [], false⟩ := by
  simp [State.reexamine, Pass.runAll, Pass.run_nothing]

/-- An event that triggers no held request closes with the two issue rules alone (R109, R110). -/
theorem State.closeEvent_nothing (s : State) (d snt : Bool) :
    s.closeEvent d snt [] =
      if snt then s.issueHost.drainIssue else if d then s.drainIssue else s := by
  cases d <;> cases snt <;> simp [State.closeEvent, State.reexamine_nothing]

/-- An event that finds no request held closes with the two issue rules alone. -/
theorem State.closeEvent_noneHeld (s : State) (d snt : Bool) (t : List Nat) (h : s.holdQueue = []) :
    s.closeEvent d snt t = if snt then s.issueHost.drainIssue else if d then s.drainIssue else s := by
  have e : s.reexamine t = ⟨s, t, [], false⟩ := by
    simp [State.reexamine, Pass.runAll, Pass.run, h]
  cases d <;> cases snt <;> simp [State.closeEvent, e]

/-! ### What the close of an event leaves as it was -/

/-- The parts of the state that no event's close touches. -/
def State.sameOutside (s t : State) : Prop :=
  t.timeBase = s.timeBase ∧ t.nextOrder = s.nextOrder ∧ t.holdLimit = s.holdLimit ∧ t.trackerA = s.trackerA ∧
    t.trackerB = s.trackerB ∧ t.sel = s.sel ∧ t.port = s.port ∧ t.hostBus = s.hostBus ∧ t.pending = s.pending

theorem State.reclassify_outside (s : State) (h : Held) : s.sameOutside (s.reclassify h) := by
  have hf : s.sameButStore _ := classify_frame s h.order h.request ((s.inflightAt h.order).bind (·.window)) h.exhaustionMet
  unfold State.sameButStore at hf
  unfold State.reclassify release
  split <;> (rw [hf]; exact ⟨rfl, rfl, rfl, rfl, rfl, rfl, rfl, rfl, rfl⟩)

/-- The close of an event leaves the time base, the trackers, the selector and the management port as they were. -/
theorem State.closeEvent_outside (s : State) (d snt : Bool) (t : List Nat) : s.sameOutside (s.closeEvent d snt t) := by
  refine State.closeEvent_keeps (P := fun u => s.sameOutside u) ?_ ?_ ?_ s d snt t ⟨rfl, rfl, rfl, rfl, rfl, rfl, rfl, rfl, rfl⟩
  · intro u h _ _ hu
    obtain ⟨a1, a2, a3, a4, a5, a6, a7, a8, a9⟩ := hu
    obtain ⟨b1, b2, b3, b4, b5, b6, b7, b8, b9⟩ := u.reclassify_outside h
    exact ⟨b1.trans a1, b2.trans a2, b3.trans a3, b4.trans a4, b5.trans a5, b6.trans a6, b7.trans a7, b8.trans a8,
      b9.trans a9⟩
  · intro u hu; simpa [State.sameOutside] using hu
  · intro u hu; simpa [State.sameOutside] using hu

/-- The close of an event changes nothing of a window but its write count, ready flag, torn flag and exhaustions, and nothing
of a window that is not ACTIVE. -/
theorem State.closeEvent_window (s : State) (d snt : Bool) (t : List Nat) (w : WindowId) :
    let v := (s.closeEvent d snt t).window w
    v = { s.window w with writeCount := v.writeCount, ready := v.ready, torn := v.torn, exhaustions := v.exhaustions } ∧
      ((s.window w).state ≠ .active → v = s.window w) := by
  refine State.closeEvent_keeps (P := fun u =>
    u.window w = { s.window w with
        writeCount := (u.window w).writeCount, ready := (u.window w).ready, torn := (u.window w).torn,
        exhaustions := (u.window w).exhaustions } ∧
      ((s.window w).state ≠ .active → u.window w = s.window w)) ?_ ?_ ?_ s d snt t ⟨rfl, fun _ => rfl⟩
  · intro u h _ _ hu
    have hc := classify_window u h.order h.request ((u.inflightAt h.order).bind (·.window)) h.exhaustionMet w
    have e : (u.reclassify h).window w =
        (classify u h.order h.request ((u.inflightAt h.order).bind (·.window)) h.exhaustionMet).state.window w := by
      unfold State.reclassify release; split <;> simp
      rfl
    rw [e]
    dsimp only at hc
    have hst : (u.window w).state = (s.window w).state := by rw [hu.1]
    refine ⟨?_, fun hn => by rw [hc.2 (hst ▸ hn), hu.2 hn]⟩
    rw [hc.1, hu.1]
  · intro u hu; simpa using hu
  · intro u hu; simpa using hu

end Sys2Proof.Machine
end

