-- ==== Sys2Proof/Laws/Beats.lean ====
section
/-! SUPPORT. What a delivered beat can do (R86 to R99), and what a candidate, a miss and an edge leave as they were (R128 to R150). -/

namespace Sys2Proof.Machine

/-! ### A delivered beat -/

/-- A property that each outcome of a window's evaluation at a beat numbered `b` keeps, and the close of the beat's event. -/
structure BeatKeeps (P : State → Prop) (b : BitVec 32) : Prop where
  countDown : ∀ s w, (s.window w).state = .active ∨ (s.window w).state = .closing → P s →
    P (s.updWindow w Window.countDown)
  idle : ∀ s w, (s.window w).state = .active → s.frameIdle w = true → P s → P (s.updWindow w Window.endDue)
  commit : ∀ s w, (s.window w).state = .active ∨ (s.window w).state = .closing → s.committedSet w = [] → P s →
    P (s.commitFrame w b)
  slip : ∀ s w, (s.window w).state = .active ∨ (s.window w).state = .closing → (s.window w).due = true → P s → P (s.slip w)
  lateDiscard : ∀ s w, (s.window w).state = .active → P s → P (s.lateDiscard w)
  lateCarry : ∀ s w, (s.window w).state = .active → (s.window w).due = true → P s → P (s.lateCarry w)
  close : ∀ s d t, P s → P (s.closeEvent d false t)

@[simp] theorem Window.countDown_state (v : Window) : v.countDown.state = v.state := by
  unfold Window.countDown; split <;> rfl

theorem BeatRun.evalWindow_keeps {P : State → Prop} {b : BitVec 32} (k : BeatKeeps P b) (x : BeatRun) (w : WindowId)
    (hx : P x.state) : P (BeatRun.evalWindow b x w).state := by
  unfold BeatRun.evalWindow
  dsimp only
  rcases h : (x.state.window w).state with _ | _ | _ | _
  · exact hx
  · dsimp only
    have ht := k.countDown _ w (.inl h) hx
    have hst : ((x.state.updWindow w Window.countDown).window w).state = .active := by simpa using h
    split
    · next hd =>
      unfold State.judge
      split
      · next hi => exact k.idle _ w hst hi ht
      · split
        · split
          · next hc => exact k.commit _ w (.inl hst) (by simpa using hc) ht
          · exact k.slip _ w (.inl hst) hd ht
        · split
          · exact k.lateDiscard _ w hst ht
          · exact k.lateCarry _ w hst hd ht
    · exact ht
  · rcases (x.state.window w).closeMode with _ | _ | _
    · exact hx
    · dsimp only
      have ht := k.countDown _ w (.inr h) hx
      have hst : ((x.state.updWindow w Window.countDown).window w).state = .closing := by simpa using h
      split
      · exact hx
      · split
        · next hc => exact k.commit _ w (.inr h) (by simpa using hc) hx
        · split
          · next hd => exact k.slip _ w (.inr hst) hd ht
          · exact ht
    · exact hx
  · exact hx

/-- A delivered beat keeps what each window's outcome and the close of the event keep (R86 to R88). -/
theorem State.evalBeat_keeps {P : State → Prop} (s : State) (k : BeatKeeps P s.sel.beatNumber) (hs : P s) :
    P s.evalBeat := by
  unfold State.evalBeat
  split
  · exact hs
  · refine k.close _ _ _ ?_
    generalize s.sel.beatNumber = b at k
    have : ∀ (l : List WindowId) (x : BeatRun), P x.state → P (l.foldl (BeatRun.evalWindow b) x).state := by
      intro l
      induction l with
      | nil => intro x hx; exact hx
      | cons w l ih => intro x hx; exact ih _ (BeatRun.evalWindow_keeps k x w hx)
    exact this windowIds _ hs

/-- What the scheduler's outcomes touch: the windows, the pool, the drain queue and the notifications. -/
def State.sameButFrames (s t : State) : Prop :=
  t = { s with windows := t.windows, pool := t.pool, drainQueue := t.drainQueue, notif := t.notif }

/-- A delivered beat leaves the time base, the trackers, the selector and the management port as they were (R86). -/
theorem State.evalBeat_outside (s : State) : s.sameOutside s.evalBeat := by
  refine State.evalBeat_keeps (P := fun t => s.sameOutside t) s ⟨?_, ?_, ?_, ?_, ?_, ?_, ?_⟩
    ⟨rfl, rfl, rfl, rfl, rfl, rfl, rfl, rfl, rfl⟩
  · intro t w _ h; exact h
  · intro t w _ _ h; exact h
  · intro t w _ _ h; unfold State.commitFrame; dsimp only; split <;> exact h
  · intro t w _ _ h; unfold State.slip; split <;> exact h
  · intro t w _ h; exact h
  · intro t w _ _ h; unfold State.lateCarry; split <;> exact h
  · intro t d l h
    obtain ⟨a1, a2, a3, a4, a5, a6, a7, a8, a9⟩ := h
    obtain ⟨b1, b2, b3, b4, b5, b6, b7, b8, b9⟩ := t.closeEvent_outside d false l
    exact ⟨b1.trans a1, b2.trans a2, b3.trans a3, b4.trans a4, b5.trans a5, b6.trans a6, b7.trans a7, b8.trans a8,
      b9.trans a9⟩

@[simp] theorem State.evalBeat_sel (s : State) : s.evalBeat.sel = s.sel := s.evalBeat_outside.2.2.2.2.2.1
@[simp] theorem State.evalBeat_port (s : State) : s.evalBeat.port = s.port := s.evalBeat_outside.2.2.2.2.2.2.1
@[simp] theorem State.evalBeat_timeBase (s : State) : s.evalBeat.timeBase = s.timeBase := s.evalBeat_outside.1
@[simp] theorem State.evalBeat_pending (s : State) : s.evalBeat.pending = s.pending :=
  s.evalBeat_outside.2.2.2.2.2.2.2.2
@[simp] theorem State.evalBeat_tracker (s : State) (t : BeatLine) : s.evalBeat.tracker t = s.tracker t :=
  State.tracker_congr s.evalBeat_outside.2.2.2.1 s.evalBeat_outside.2.2.2.2.1 t

/-- While INIT is in progress a delivered beat changes nothing (R87). -/
theorem State.evalBeat_busy (s : State) (h : s.port.busy = true) : s.evalBeat = s := by
  simp [State.evalBeat, h]

/-! ### Candidates (R142 to R148) -/

/-- What a candidate can do to the selector: it is delivered after the gap test, from C or, completing the switch, from P; or the
state is unchanged (R142 to R148). -/
theorem State.offer_cases (s : State) (c : Source) :
    (s.offer c = (.passedOver, s) ∧ c ≠ s.sel.current ∧ s.sel.target ≠ some c) ∨
    (s.offer c = (.suppressed, s) ∧ (c = s.sel.current ∨ s.sel.target = some c) ∧
      s.sel.gapPasses s.timeBase = false) ∨
    ((s.offer c).1 = .delivered ∧ c = s.sel.current ∧ s.sel.gapPasses s.timeBase = true ∧
      (s.offer c).2 = ({ s with sel := s.sel.deliver s.timeBase } : State).evalBeat) ∨
    ((s.offer c).1 = .delivered ∧ c ≠ s.sel.current ∧ s.sel.target = some c ∧ s.sel.gapPasses s.timeBase = true ∧
      (s.offer c).2 =
        (({ s with sel := { s.sel.deliver s.timeBase with current := c, target := none } } : State).notify
          .sourceSwitched (.source c) none none).evalBeat) := by
  unfold State.offer
  dsimp only
  by_cases h1 : c = s.sel.current
  · cases hg : s.sel.gapPasses s.timeBase
    · exact .inr (.inl ⟨by simp [h1], .inl h1, rfl⟩)
    · exact .inr (.inr (.inl ⟨by simp [h1], h1, rfl, by simp [h1]⟩))
  · by_cases h2 : s.sel.target = some c
    · cases hg : s.sel.gapPasses s.timeBase
      · exact .inr (.inl ⟨by simp [h1, h2], .inr h2, rfl⟩)
      · exact .inr (.inr (.inr ⟨by simp [h1, h2], h1, h2, rfl, by simp [h1, h2]⟩))
    · exact .inl ⟨by simp [h1, h2], h1, h2⟩

/-- A candidate moves the beat number and the last delivered time together, by one beat that passes the gap test, or neither
(R144, R145). -/
theorem State.offer_beat (s : State) (c : Source) :
    ((s.offer c).2.sel.beatNumber = s.sel.beatNumber ∧ (s.offer c).2.sel.lastDelivered = s.sel.lastDelivered) ∨
    ((s.offer c).2.sel.beatNumber = s.sel.beatNumber + 1 ∧ (s.offer c).2.sel.lastDelivered = some s.timeBase ∧
      s.sel.gapPasses s.timeBase = true) := by
  rcases s.offer_cases c with ⟨e, -, -⟩ | ⟨e, -, -⟩ | ⟨-, -, hg, e⟩ | ⟨-, -, -, hg, e⟩
  · exact .inl (by rw [e]; exact ⟨rfl, rfl⟩)
  · exact .inl (by rw [e]; exact ⟨rfl, rfl⟩)
  · exact .inr (by rw [e]; simp [Selector.deliver, hg])
  · exact .inr (by rw [e]; simp [Selector.deliver, hg])

/-- A candidate leaves both trackers as they were (R136). -/
@[simp] theorem State.offer_tracker (s : State) (c : Source) (t : BeatLine) :
    (s.offer c).2.tracker t = s.tracker t := by
  rcases s.offer_cases c with ⟨e, -, -⟩ | ⟨e, -, -⟩ | ⟨-, -, -, e⟩ | ⟨-, -, -, -, e⟩ <;> rw [e] <;> simp <;> cases t <;> rfl

/-- What a candidate makes of the selector, in one expression (R142, R144, R145, R148); the state is unchanged unless a beat is
delivered. -/
theorem State.offer_sel (s : State) (c : Source) :
    (s.offer c).2.sel = s.sel.afterCandidate c s.timeBase ∧
      ((s.offer c).2.sel.beatNumber = s.sel.beatNumber → (s.offer c).2 = s) := by
  have gp : s.sel.gapPasses s.timeBase = true ↔
      ∀ d, s.sel.lastDelivered = some d → d + s.sel.gap.toNat ≤ s.timeBase := by
    unfold Selector.gapPasses; rcases s.sel.lastDelivered with _ | d <;> simp
  rcases s.offer_cases c with ⟨e, h1, h2⟩ | ⟨e, -, h2⟩ | ⟨-, h1, hg, e⟩ | ⟨-, h1, h2, hg, e⟩
  · rw [e]
    refine ⟨?_, fun _ => rfl⟩
    unfold Selector.afterCandidate
    rw [if_neg]
    rintro ⟨-, h | h⟩
    · exact h1 h
    · exact h2 h
  · rw [e]
    refine ⟨?_, fun _ => rfl⟩
    unfold Selector.afterCandidate
    rw [if_neg]
    rintro ⟨h, -⟩
    rw [← gp] at h
    simp [h2] at h
  · rw [e]
    refine ⟨?_, by simp [Selector.deliver]⟩
    unfold Selector.afterCandidate
    rw [if_pos ⟨gp.mp hg, .inl h1⟩]
    simp [Selector.deliver, h1]
  · rw [e]
    refine ⟨?_, by simp [Selector.deliver]⟩
    unfold Selector.afterCandidate
    rw [if_pos ⟨gp.mp hg, .inr h2⟩]
    simp [Selector.deliver, h1]

end Sys2Proof.Machine
end

