-- ==== Sys2Proof/Laws/Registers.lean ====
section
/-! SUPPORT. What a write of the register window is judged as (R156). -/

namespace Sys2Proof.Machine

/-- A write with all four lanes enabled is judged as the word it carries (R156). -/
theorem State.mergeWrite_full (s : State) (g : Reg) (v : Word) : s.mergeWrite g ⟨v, 0xF⟩ = v := by
  have h : laneMask 0xF = BitVec.allOnes 32 := by decide
  show (v &&& laneMask 0xF) ||| (s.readReg g &&& ~~~(laneMask 0xF)) = v
  rw [h, BitVec.not_allOnes, BitVec.and_allOnes, BitVec.and_zero, BitVec.or_zero]

/-- A write with no lane enabled is judged as the word a read shows (R156). -/
theorem State.mergeWrite_none (s : State) (g : Reg) (v : Word) : s.mergeWrite g ⟨v, 0⟩ = s.readReg g := by
  have h : ~~~(laneMask 0) = BitVec.allOnes 32 := by decide
  have h0 : laneMask 0 = 0#32 := by decide
  show (v &&& laneMask 0) ||| (s.readReg g &&& ~~~(laneMask 0)) = s.readReg g
  rw [h, h0, BitVec.and_allOnes, BitVec.and_zero, BitVec.zero_or]

/-- Bit `i` of the mask is set exactly when the lane of byte `i / 8` is enabled. -/
theorem laneMask_getLsbD : ∀ (l : BitVec 4) (i : Fin 32), (laneMask l).getLsbD i = l.getLsbD (i / 8) := by decide

/-- Bit by bit: a write is judged as its own bit where the byte lane is enabled, and else as the bit a read shows (R156). -/
theorem State.mergeWrite_getLsbD (s : State) (g : Reg) (d : BusWrite) (i : Nat) (hi : i < 32) :
    (s.mergeWrite g d).getLsbD i =
      if d.lanes.getLsbD (i / 8) then d.value.getLsbD i else (s.readReg g).getLsbD i := by
  have h := laneMask_getLsbD d.lanes ⟨i, hi⟩
  simp only at h
  simp only [State.mergeWrite, BitVec.getLsbD_or, BitVec.getLsbD_and, BitVec.getLsbD_not, h, hi, decide_true, Bool.true_and]
  cases d.lanes.getLsbD (i / 8) <;> simp

/-- The codes of the modes read back what was written (R159). -/
theorem readinessOf_code (m : Readiness) : readinessOf m.code = some m := by cases m <;> rfl
theorem exhaustionOf_code (p : ExhaustionPolicy) : exhaustionOf p.code = some p := by cases p <;> rfl
theorem sourceOf_code (c : Source) : sourceOf c.code = c := by cases c <;> rfl

end Sys2Proof.Machine
end

