-- ==== Sys2Proof/Tests/Slice0.lean ====
section
/-! SUPPORT. Tests of single commands against the spec's examples and rules, and, for every statement that has hypotheses, concrete
states and operands that meet them (`witness_<statement>`), clause by clause at the ends of their ranges. -/

open Sys2Proof Sys2Proof.Machine

namespace Sys2Proof.Tests

/-! ### Small states -/

/-- A COUNT window of lines 0x40 and 0x41 (addresses 0x1000 to 0x107F): initiator 1 produces, N = 2, k = 1, quota 4, tally flag set; just
opened. -/
def win : Window :=
  { Window.cleared
      { Descriptor.reset with
        base := 0x40, size := 2, producers := 0x0002, interval := 1, readiness := .count, readyCount := 2, quota := 4,
        tally := true } with
    state := .active, countdown := 2 }

/-- `win` with its descriptor changed. -/
def winD (f : Descriptor → Descriptor) : Window := { win with desc := f win.desc }

/-- The part after reset, with window 3 as given. -/
def withWin (v : Window) : State := State.reset.updWindow 3 fun _ => v

/-- An entry of window 3 that holds byte `b` at positions `lo` up to, but not including, `hi`. -/
def entry (l : Line) (g : Generation) (lo hi : Nat) (b : Byte) : Entry :=
  { window := 3, line := l, gen := g, cells := (List.range 64).map fun p => if lo ≤ p ∧ p < hi then some b else none
    firstWrite := 1 }

/-- One entry of window 3, PENDING at 0x40 or COMMITTED at 0x41. -/
def pend : Entry := entry 0x40 .pending 0 1 7
def comm : Entry := entry 0x41 (.committed .issued false) 0 1 7

/-- A WRITE of one enabled byte. -/
def write1 (i : Initiator) (a : Address) (b : Byte) : Request :=
  { initiator := i, kind := .write [(true, b)], address := a, size := 1 }

/-- A READ. -/
def read (i : Initiator) (a : Address) (n : Nat) : Request := { initiator := i, kind := .read, address := a, size := n }

/-- The state a command leaves. -/
def after (c : Instr) (s : State) : State :=
  match exec c s with
  | .next t => t
  | .fault _ => s
  | .refused _ => s

/-- The state a step leaves, with `c` in front of the queue. -/
def stepOf (c : Instr) (s : State) : State :=
  match step { s with pending := [c] } with
  | .next t => t
  | .fault _ => s
  | .refused _ => s

/-- The next step from `s` is `c`, and it answers the next state `stepOf c s`. -/
theorem step_stepOf (c : Instr) (s : State) (h : ∃ t, exec c { s with pending := [] } = .next t) :
    step { s with pending := [c] } = .next (stepOf c s) := by
  obtain ⟨t, ht⟩ := h
  have hs : step { s with pending := [c] } = .next t := ht
  simp only [stepOf, hs]

/-- An in-flight entry of take time 0. -/
def flight (n : Nat) (r : Request) (w : Option WindowId) (st : Status) (cap : Option (List (Option Byte))) : InFlight :=
  { order := n, request := r, takeTime := 0, window := w, status := st, capture := cap }

/-- A held request of take time 0 and deadline 2000. -/
def heldAt (n : Nat) (r : Request) (reason : HoldReason) (w : Option WindowId) : Held :=
  { order := n, request := r, reason := reason, window := w, line := r.line, takeTime := 0, deadline := 2000
    exhaustionMet := reason == .exhausted }

/-- `s` with one request, taken first and held for window 3. -/
def holding (s : State) (r : Request) (reason : HoldReason) : State :=
  { s with nextOrder := 1, inflight := [flight 0 r (some 3) .held none], holdQueue := [heldAt 0 r reason (some 3)] }

/-- A passed-through request outstanding for place `n`. -/
def down (n : Nat) (r : Request) : HostDown := { order := n, purpose := .passThrough, request := r }

/-! ### Commands that no sender gives -/

/-- R43: a request carries at most 64 bytes. -/
theorem test_illformed_size : (Instr.hostSideRequest (read 0 0 65)).wellFormed = false := by decide
theorem test_wellformed_size : (Instr.hostSideRequest (read 0 0 64)).wellFormed = true := by decide
/-- R43: a WRITE carries one flag and one byte for each of its bytes. -/
theorem test_illformed_lanes :
    (Instr.hostSideRequest { initiator := 0, kind := .write [(true, 1)], address := 0, size := 2 }).wellFormed = false := by
  decide
/-- R43, R112: memory answers at most the 64 bytes of a request. -/
theorem test_illformed_host_answer : (Instr.hostOriginCompletion 0 (.okay (List.replicate 65 0))).wellFormed = false := by
  decide
theorem test_illformed_unmatched_answer :
    (Instr.unmatchedMemoryAnswer (.okay (List.replicate 65 0))).wellFormed = false := by decide
/-- R162: codes 1 to 5 are the defined ones. -/
theorem test_illformed_undefined_command :
    (Instr.undefinedCommand 1).wellFormed = false ∧ (Instr.undefinedCommand 5).wellFormed = false ∧
      (Instr.undefinedCommand 0).wellFormed = true ∧ (Instr.undefinedCommand 6).wellFormed = true := by decide

/-- 98_reader: no row of the table has bits, so no word spells a command. -/
theorem test_no_word_spells_a_command : decodeTableWord 32 0x12345678 = none ∧ State.reset.withFetchWord 8 5 = State.reset := by
  decide

/-! ### One command on one small state: the spec's worked examples and rules -/

/-- Example 2.10 before its step 7: L = 0x40 has a COMMITTED entry at 0 to 7 (frame 1) and a PENDING one at 4 to 11 (frame 2). -/
def twoFrames : State :=
  { withWin win with pool := [entry 0x40 (.committed .issued false) 0 8 0xF1, entry 0x40 .pending 4 12 0xF2]
                     outstanding := [.drain ⟨3, 0x40⟩] }

/-- Example 4.7 at t = 1500: x is held EXHAUSTED and y, of the same initiator, ORDER. -/
def twoHeld : State :=
  { withWin (winD fun d => { d with quota := 1, producers := 0x0008 }) with
    timeBase := 1500, nextOrder := 2, pool := [entry 0x41 .pending 0 1 1]
    inflight := [flight 0 (write1 3 0x1000 7) (some 3) .held none, flight 1 (read 3 0x9000 1) none .held none]
    holdQueue := [{ heldAt 0 (write1 3 0x1000 7) .exhausted (some 3) with deadline := 1500 },
      { heldAt 1 (read 3 0x9000 1) .order none with deadline := 1600 }] }

/-- Example 6.8: A = 0x40 has met its first drain error, and its second answer is on its way. -/
def drainingA : State :=
  { withWin win with pool := [entry 0x40 (.committed .issued true) 0 1 7], outstanding := [.drain ⟨3, 0x40⟩] }

/-- The BEAT_A tracker of example 7.10, LOCKED with expected time 17,900, at time `t`. -/
def trackA : Tracker :=
  { Tracker.reset with enable := true, state := .locked, refPeriod := some 1000, expected := some 17900 }

/-- Example 8.8 before its step 2: INTERNAL is C and BEAT_A is P, at time `t`. -/
def switching (t : Time) : State :=
  { State.reset with
    timeBase := t, trackerA := { trackA with expected := some 16700 }
    sel := { Selector.reset with target := some .beatA, beatNumber := 500, lastDelivered := some 16000, gap := 300
                                 nextTime := 17000 } }

/-- Example 7.10: BEAT_A is C, its tracker as given, its last beat at 16,900. -/
def onA (t : Time) (v : Tracker) : State :=
  { State.reset with
    timeBase := t, trackerA := v
    sel := { Selector.reset with current := .beatA, beatNumber := 9, lastDelivered := some 16900, nextTime := 50000 } }

/-- R158, R159: the identification word, and the time base at 0. -/
theorem test_hardware_reset :
    (after .hardwareReset { withWin win with timeBase := 77 }).timeBase = 0 ∧
      (after .hardwareReset (withWin win)).readOffset 0x000 = 0x0F160001 := by decide

/-- Example 2.10, step 7: the producer captures frame 1 at 0 to 3, frame 2 at 4 to 11, and nothing at 12 to 15; and a read that its capture
covers, READY behind an older request of its initiator, keeps the capture (R47). -/
theorem test_host_side_request_read :
    (after (.hostSideRequest (read 1 0x1000 16)) twoFrames).inflight.map (·.capture) =
        [some (List.replicate 4 (some 0xF1) ++ List.replicate 8 (some 0xF2) ++ List.replicate 4 none)] ∧
      ((after (.hostSideRequest (read 1 0x1003 2))
          { twoFrames with
            nextOrder := 1, inflight := [flight 0 (read 1 0x9000 1) none .downstream none]
            outstanding := [.host (down 0 (read 1 0x9000 1))] }).inflight.drop 1).map (fun e => (e.status, e.capture)) =
        [(.ready (.okay [0xF1, 0xF2]), some [some 0xF1, some 0xF2])] := by decide

/-- Example 4.6, steps 1 and 2: the second write of N = 2 sets the ready flag. -/
theorem test_host_side_request_write :
    ((after (.hostSideRequest (write1 1 0x1000 5)) (withWin { win with writeCount := 1 })).window 3).ready = true ∧
      ((after (.hostSideRequest (write1 1 0x1000 5)) (withWin win)).window 3).ready = false := by decide

/-- A viewed read behind an older pass-through read of its initiator, both with memory. -/
def readBehind : State :=
  { State.reset with
    nextOrder := 5
    inflight :=
      [flight 3 (read 1 0x9000 1) none .downstream none,
       flight 4 (read 1 0x1000 3) (some 3) .downstream (some [some 0xF1, some 0xF2, none])]
    outstanding := [.host (down 3 (read 1 0x9000 1)), .host { down 4 (read 1 0x1000 3) with purpose := .viewedRead }] }

/-- Example 2.10, step 7 answered: frame 1, frame 2, and memory's byte. R66: after an ERROR the captured bytes are discarded, also where the
answer waits behind an older request. -/
theorem test_host_origin_completion :
    (after (.hostOriginCompletion 4 (.okay [0, 0, 0x0D]))
      { State.reset with
        nextOrder := 5, inflight := [flight 4 (read 1 0x1000 3) (some 3) .downstream (some [some 0xF1, some 0xF2, none])]
        outstanding := [.host { down 4 (read 1 0x1000 3) with purpose := .viewedRead }] }).answers =
        [⟨4, 1, .okay [0xF1, 0xF2, 0x0D]⟩] ∧
      (after (.hostOriginCompletion 4 .error) readBehind).inflight =
        [flight 3 (read 1 0x9000 1) none .downstream none, flight 4 (read 1 0x1000 3) (some 3) (.ready .error) none] := by decide

/-- Example 6.8, step 5: A is dropped, and its window FAULTED with one drain fault. -/
theorem test_drain_completion_second_error :
    ((after (.drainCompletion 0x40 .error) drainingA).window 3).state = .faulted ∧
      ((after (.drainCompletion 0x40 .error) drainingA).window 3).drainFaults = 1 ∧
      (after (.drainCompletion 0x40 .error) drainingA).pool = [] := by decide

/-- Example 6.8, step 3: the first error issues A again at once. -/
theorem test_drain_completion_first_error :
    (after (.drainCompletion 0x40 .error) { drainingA with pool := [entry 0x40 (.committed .issued false) 0 1 7] }).pool =
      [entry 0x40 (.committed .issued true) 0 1 7] := by decide

/-- Example 4.7, the timeout first: x is answered ERROR, and y is classified afresh and passed through. -/
theorem test_hold_timeout :
    (after (.holdTimeout 0) twoHeld).answers = [⟨0, 3, .error⟩] ∧
      ((after (.holdTimeout 0) twoHeld).window 3).holdTimeouts = 1 ∧
      (after (.holdTimeout 0) twoHeld).outstanding = [.host (down 1 (read 3 0x9000 1))] := by decide

/-- Section 7.4's example at 15,890: the tracker locks with expected time 16,890. -/
theorem test_beat_edge_locks :
    (after (.beatEdge .a)
      { State.reset with
        timeBase := 15890
        trackerA := { Tracker.reset with
          enable := true, state := .qualifying, refPeriod := some 1000, goodCount := 3, lastEdge := some 14910 } }).trackerA =
      { trackA with expected := some 16890 } := by decide

/-- Section 7.4's example at 12,900: an interval of 480 begins the run again. -/
theorem test_beat_edge_restarts :
    (after (.beatEdge .a)
      { State.reset with
        timeBase := 12900
        trackerA := { Tracker.reset with
          enable := true, state := .qualifying, refPeriod := some 1000, goodCount := 3, lastEdge := some 12420 } }).trackerA =
      { Tracker.reset with enable := true, state := .qualifying, goodCount := 1, lastEdge := some 12900 } := by decide

/-- Example 7.10, step 1: HOLDOVER, expected time 18,900, and an interpolated candidate. -/
theorem test_tracker_miss_coasts :
    (after (.trackerMiss .a) (onA 17950 trackA)).trackerA =
        { trackA with state := .holdover, missedCount := 1, expected := some 18900 } ∧
      (after (.trackerMiss .a) (onA 17950 trackA)).sel.lastDelivered = some 17950 := by decide

/-- Examples 7.10 and 8.8, step 6: the third miss loses lock and fails over, with the next time one period after the last beat. -/
theorem test_tracker_miss_fails_over :
    (after (.trackerMiss .a)
      (onA 18000 { trackA with state := .holdover, missedCount := 2, expected := some 17950 })).sel =
      { Selector.reset with beatNumber := 9, lastDelivered := some 16900, nextTime := 17900 } := by decide

/-- Example 8.8, step 7: beat 505 is delivered at 20,750 and 21,750 scheduled. -/
theorem test_internal_candidate :
    (after .internalCandidate
      { State.reset with
        timeBase := 20750
        sel := { Selector.reset with beatNumber := 504, lastDelivered := some 19750, nextTime := 20750 } }).sel =
      { Selector.reset with beatNumber := 505, lastDelivered := some 20750, nextTime := 21750 } := by decide

/-- Section 5.6's example, steps 5 and 8: a ready frame commits where the committed set is empty, and slips where it is not. -/
theorem test_internal_candidate_at_a_window :
    ((after .internalCandidate
        { withWin { win with countdown := 1, ready := true } with
          timeBase := 1000, pool := [entry 0x40 .pending 0 1 7] }).window 3).commitCount = 1 ∧
      ((after .internalCandidate
        { withWin { win with countdown := 1, ready := true } with
          timeBase := 1000
          pool := [entry 0x40 .pending 0 1 7, entry 0x41 (.committed .issued false) 0 1 7] }).window 3).slips = 1 := by decide

/-- An argument register that names window 3. -/
def arg3 (m : CloseMode) : Port := { Port.reset with argument := { window := 3, mode := m, source := .beatA } }

/-- The quota and the reserve of the window 3 to be opened, with window 2 owning one entry of the pool. -/
def opening (n : BitVec 10) : State :=
  { withWin { winD (fun d => { d with quota := 512, reserve := n }) with state := .off, countdown := 0 } with
    pool := [{ entry 0x90 .pending 0 1 7 with window := 2 }], port := arg3 .commit }

/-- Example 1.4 in small: a reserve that the free count meets exactly is DONE, and one more is REFUSED_ROOM. -/
theorem test_open :
    (after .openWindow (opening 512)).port.result = some (.refusedRoom, .openW) ∧
      (after .openWindow (opening 511)).port.result = some (.done, .openW) ∧
      ((after .openWindow (opening 511)).window 3).countdown = 2 := by decide

/-- R15: an ACTIVE window that owns nothing becomes OFF at once, its commit count kept. -/
theorem test_close :
    ((after .closeWindow
      { withWin { win with commitCount := 6 } with port := arg3 .commit }).window 3) =
      { win with state := .off, countdown := 0, commitCount := 6 } := by decide

/-- Example 8.8, step 1: P becomes BEAT_A, and the result is DONE. -/
theorem test_select_source :
    (after .selectSource { switching 16100 with sel := { (switching 16100).sel with target := none } }).sel.target =
      some .beatA := by decide

/-- R149: 99 µs after the last beat, with G = 100, BEAT_NOW is SUPPRESSED; 100 µs after it, DONE. -/
theorem test_beat_now :
    (after .beatNow
        { State.reset with timeBase := 599, sel := { Selector.reset with current := .soft, lastDelivered := some 500 } }).port.result =
        some (.suppressed, .beatNow) ∧
      (after .beatNow
        { State.reset with timeBase := 600, sel := { Selector.reset with current := .soft, lastDelivered := some 500 } }).port.result =
        some (.done, .beatNow) := by decide

/-- R165, R167: INIT with nothing in flight and nothing outstanding ends at once; with a drain write outstanding it is in progress. -/
theorem test_init :
    (after .initCommand (withWin win)).port.result = some (.done, .init) ∧
      ((after .initCommand (withWin win)).window 3).state = .off ∧ (after .initCommand drainingA).port.busy = true := by decide

/-- R168: the end of INIT frees the pool and clears the busy flag. -/
theorem test_init_end :
    (after .initEnd { drainingA with port := { Port.reset with busy := true }, outstanding := [] }).pool = [] ∧
      (after .initEnd { drainingA with port := { Port.reset with busy := true }, outstanding := [] }).port.busy = false := by
  decide

/-- R162: an undefined code sets the ignored-write flag. -/
theorem test_undefined_command : (after (.undefinedCommand 6) State.reset).port.ignoredWrite = true := by decide

/-- R159: word 4 holds the quota in bits 9:0 and the reserve in bits 25:16; a window that is not OFF ignores the write (R4). -/
theorem test_descriptor_write :
    ((after (.descriptorWrite 3 4 ⟨0x00100064, 0xF⟩) State.reset).window 3).desc = { Descriptor.reset with quota := 100, reserve := 16 } ∧
      (after (.descriptorWrite 3 4 ⟨0x00100064, 0xF⟩) (withWin win)).port.ignoredWrite = true := by decide

/-- R79: 16 is taken and 15 is not. -/
theorem test_hold_limit_write :
    (after (.holdLimitWrite ⟨16, 0xF⟩) State.reset).holdLimit = 16 ∧
      (after (.holdLimitWrite ⟨15, 0xF⟩) State.reset).holdLimit = 2000 := by decide

/-- R144: 1000, equal to the period, is taken, and 1001 is not. -/
theorem test_minimum_gap_write :
    (after (.minimumGapWrite ⟨1000, 0xF⟩) State.reset).sel.gap = 1000 ∧
      (after (.minimumGapWrite ⟨1001, 0xF⟩) State.reset).sel.gap = 100 := by decide

/-- R143: 1,000,000 is taken, and the next time is unchanged; 99 is not. -/
theorem test_internal_period_write :
    (after (.internalPeriodWrite ⟨1000000, 0xF⟩) State.reset).sel = { Selector.reset with period := 1000000 } ∧
      (after (.internalPeriodWrite ⟨99, 0xF⟩) State.reset).port.ignoredWrite = true := by decide

/-- R151: setting the enable while C has no lock fails over. -/
theorem test_failover_enable_write :
    (after (.failoverEnableWrite ⟨1, 0xF⟩)
      { onA 20000 { Tracker.reset with enable := true, state := .seeking } with
        sel := { (onA 20000 trackA).sel with failoverEnable := false } }).sel.current = .internal := by decide

/-- R126: T = 60, Q = 5 and M = 2 are taken together; Q = 1 is out of range. -/
theorem test_tracker_configuration_write :
    (after (.trackerConfigurationWrite .b ⟨0x0205003C, 0xF⟩) State.reset).trackerB =
        { Tracker.reset with tolerance := 60, qualCount := 5, missLimit := 2 } ∧
      (after (.trackerConfigurationWrite .b ⟨0x0201003C, 0xF⟩) State.reset).port.ignoredWrite = true := by decide

/-- R128: a DISABLED tracker becomes SEEKING. -/
theorem test_tracker_enable_set :
    (after (.trackerEnableSet .a) State.reset).trackerA = { Tracker.reset with enable := true, state := .seeking } := by decide

/-- R129: a tracker that is neither C nor P gives up what it has learned; that of C refuses. -/
theorem test_tracker_enable_clear :
    (after (.trackerEnableClear .a) { State.reset with trackerA := trackA }).trackerA = Tracker.reset ∧
      (after (.trackerEnableClear .a) (onA 17000 trackA)).port.ignoredWrite = true := by decide

/-- R160, R161: each flag is cleared by its own bit. -/
theorem test_clear_ignored_write :
    (after .clearIgnoredWrite { State.reset with port := { Port.reset with ignoredWrite := true, refusedBusy := true } }).port =
      { Port.reset with refusedBusy := true } := by decide
theorem test_clear_refused_busy :
    (after .clearRefusedBusy { State.reset with port := { Port.reset with ignoredWrite := true, refusedBusy := true } }).port =
      { Port.reset with ignoredWrite := true } := by decide

/-- A notification record of a window. -/
def record (k : NotifKind) (w : WindowId) : NotifRecord :=
  { kind := k, subject := .window w, beat := 7, line := none, initiator := none, count := 1 }

/-- R175: the head record leaves, and an empty queue stays as it is. -/
theorem test_pop :
    (after .pop { State.reset with notif := { Notifier.reset with queue := [record .commit 1, record .slip 2] } }).notif.queue =
        [record .slip 2] ∧
      (after .pop State.reset) = State.reset := by decide

/-- R177. -/
theorem test_overflow_count_clear :
    (after .overflowCountClear { State.reset with notif := { Notifier.reset with overflow := 65535 } }).notif.overflow = 0 := by
  decide

/-- R178: INT is asserted while the queue holds a record and the enable is set. -/
theorem test_interrupt_enable_write :
    (after (.interruptEnableWrite ⟨1, 0xF⟩)
        { State.reset with notif := { Notifier.reset with queue := [record .commit 1] } }).intLine = true ∧
      (after (.interruptEnableWrite ⟨1, 0xF⟩) State.reset).intLine = false := by decide

/-- R156: a write of byte lane 0 alone leaves the other bytes of the hold limit, 2000 = 0x07D0, as a read shows them; and the offset's two
lowest bits are ignored. -/
theorem test_register_write :
    (after (.registerWrite 0x008 ⟨0xFFFFFF11, 1⟩) State.reset).holdLimit = 0x0711 ∧
      (after (.registerWrite 0x00B ⟨0xFFFFFF11, 1⟩) State.reset).holdLimit = 0x0711 := by decide

/-- R112: an answer that matches no entry is ignored. -/
theorem test_unmatched_memory_answer :
    after (.unmatchedMemoryAnswer .error) twoFrames = twoFrames ∧
      after (.hostOriginCompletion 9 .error) twoFrames = twoFrames := by decide

/-! ### Witnesses: the queue, time and reset -/

theorem witness_StepRunsTheFrontCommand : ({ State.reset with pending := [.pop, .beatNow] } : State).pending = .pop :: [.beatNow] := rfl

theorem reset_nothingDue : State.reset.nothingDue :=
  ⟨fun t => by cases t <;> decide, by decide, by decide⟩

/-- A request waits on the bus, and nothing is due. -/
def waiting : State := { State.reset with hostBus := [read 6 0x9000 1] }

theorem waiting_nothingDue : waiting.nothingDue := ⟨fun t => by cases t <;> decide, by decide, by decide⟩

/-- A step that leaves the time, and a reset; and on an empty queue a miss of either tracker, a deadline, the generator's next time, a request to
take, none to take, and one that waits on during INIT. -/
theorem witness_TimePassesOnlyWhenNothingIsDue :
    step { State.reset with pending := [.pop] } = .next (stepOf .pop State.reset) ∧
      (switching 16700).timeBase ≠ 0 ∧
      step { switching 16700 with pending := [.hardwareReset] } = .next (stepOf .hardwareReset (switching 16700)) ∧
      (State.reset.pending = [] ∧ State.reset.nothingDue ∧ State.reset.nothingToTake) ∧
      ((onA 17950 trackA).pending = [] ∧ ((onA 17950 trackA).tracker .a).missDue 17950 = true) ∧
      ((({ State.reset with trackerB := trackA } : State).tracker .a).missDue 17950 = false ∧
        (({ State.reset with trackerB := trackA } : State).tracker .b).missDue 17950 = true) ∧
      ((∀ tr ∈ [BeatLine.a, .b], (twoHeld.tracker tr).missDue twoHeld.timeBase = false) ∧
        twoHeld.holdQueue =
          [] ++ { heldAt 0 (write1 3 0x1000 7) .exhausted (some 3) with deadline := 1500 } ::
            [{ heldAt 1 (read 3 0x9000 1) .order none with deadline := 1600 }] ∧ 1500 ≤ twoHeld.timeBase) ∧
      (({ State.reset with timeBase := 1000 } : State).holdQueue = [] ∧ State.reset.sel.nextTime ≤ 1000) ∧
      (waiting.nothingDue ∧ ({ waiting with hostBus := [] } : State).takesNext) ∧
      ({ waiting with port := { Port.reset with busy := true } } : State).nothingToTake :=
  ⟨by rfl, by decide, by rfl, ⟨rfl, reset_nothingDue, .inl rfl⟩, by decide, by decide, by decide, by decide,
    ⟨waiting_nothingDue, by unfold State.takesNext; decide⟩, .inr (by unfold State.takesNext; decide)⟩

/-! ### Witnesses: the laws that every step keeps -/

/-- A state with `i` requests in flight, `h` held, `o` host-origin requests and `d` drain writes outstanding. -/
def loaded (i h o d : Nat) : State :=
  { State.reset with
    nextOrder := i
    inflight := (List.range i).map fun n => flight n (read 5 0x9000 1) none .downstream none
    holdQueue := (List.range h).map fun n => heldAt n (write1 1 0x1000 7) .closing (some 3)
    outstanding := (List.range o).map (fun n => .host (down n (read 5 0x9000 1))) ++ List.replicate d (.drain ⟨3, 0x40⟩) }

/-- At every limit a request is not taken; one below every limit it is, and reaches two of them. -/
theorem witness_CapacitiesAreKept :
    ({ loaded 24 8 12 4 with pending := [.hostSideRequest (read 6 0x9000 1)] } : State).withinLimits ∧
      step { loaded 24 8 12 4 with pending := [.hostSideRequest (read 6 0x9000 1)] } =
        .next (stepOf (.hostSideRequest (read 6 0x9000 1)) (loaded 24 8 12 4)) ∧
      (stepOf (.hostSideRequest (read 6 0x9000 1)) (loaded 24 8 12 4)).inflight.length = 24 ∧
      ({ loaded 23 7 11 3 with pending := [.hostSideRequest (read 6 0x9000 1)] } : State).withinLimits ∧
      step { loaded 23 7 11 3 with pending := [.hostSideRequest (read 6 0x9000 1)] } =
        .next (stepOf (.hostSideRequest (read 6 0x9000 1)) (loaded 23 7 11 3)) ∧
      (stepOf (.hostSideRequest (read 6 0x9000 1)) (loaded 23 7 11 3)).inflight.length = 24 ∧
      (stepOf (.hostSideRequest (read 6 0x9000 1)) (loaded 23 7 11 3)).hostCount = 12 :=
  ⟨by unfold State.withinLimits; decide, by rfl, by decide, by unfold State.withinLimits; decide, by rfl, by decide, by decide⟩

/-- A queue of 32 records, two kinds for each window. -/
def fullQueue : Notifier :=
  { Notifier.reset with queue := windowIds.flatMap fun w => [record .commit w, record .slip w] }

/-- The full queue is lawful, and a bad request then overflows it. -/
theorem witness_NotificationLawIsKept :
    ({ State.reset with notif := fullQueue, pending := [.hostSideRequest (read 6 0x9000 0)] } : State).notif.lawful ∧
      ({ State.reset with notif := fullQueue, pending := [.hostSideRequest (read 6 0x9000 0)] } : State).notif.counted ∧
      step { State.reset with notif := fullQueue, pending := [.hostSideRequest (read 6 0x9000 0)] } =
        .next (stepOf (.hostSideRequest (read 6 0x9000 0)) { State.reset with notif := fullQueue }) ∧
      (stepOf (.hostSideRequest (read 6 0x9000 0)) { State.reset with notif := fullQueue }).notif.queue.length = 32 ∧
      (stepOf (.hostSideRequest (read 6 0x9000 0)) { State.reset with notif := fullQueue }).notif.overflow = 1 :=
  ⟨by unfold Notifier.lawful NotifRecord.sameKey; decide, by unfold Notifier.counted; decide, by rfl, by decide, by decide⟩

/-- Example 3.8 after its step 3, with a viewed read of initiator 6 outstanding beside it: initiator 3 has a DOWNSTREAM, b READY and c
HELD. -/
def inOrder : State :=
  { withWin (winD fun d => { d with producers := 0x0008, quota := 1 }) with
    nextOrder := 4
    pool := [entry 0x40 .pending 0 8 0xB]
    inflight :=
      [flight 0 (read 3 0x9000 1) none .downstream none, flight 1 (write1 3 0x1000 0xB) (some 3) (.ready (.okay [])) none,
       flight 2 (write1 3 0x1040 0xC) (some 3) .held none,
       flight 3 (read 6 0x1000 2) (some 3) .downstream (some [none, none])]
    holdQueue := [heldAt 2 (write1 3 0x1040 0xC) .exhausted (some 3)]
    outstanding :=
      [.host (down 0 (read 3 0x9000 1)), .host { down 3 (read 6 0x1000 2) with purpose := .viewedRead }] }

/-- Memory's answer to a. -/
def answerA : Instr := .hostOriginCompletion 0 (.okay [0xA])

theorem inOrder_steps : step { inOrder with pending := [answerA] } = .next (stepOf answerA inOrder) := by rfl

/-- Example 3.8, step 6: a and b leave, in order, and c stays. -/
theorem inOrder_answers : (stepOf answerA inOrder).answers = [⟨0, 3, .okay [0xA]⟩, ⟨1, 3, .okay []⟩] := by decide

theorem witness_AnswersLeaveInTakeOrder :
    ({ inOrder with pending := [answerA] } : State).answersInOrder ∧
      step { inOrder with pending := [answerA] } = .next (stepOf answerA inOrder) :=
  ⟨by unfold State.answersInOrder; decide, inOrder_steps⟩

theorem inOrder_portsAgree : ({ inOrder with pending := [answerA] } : State).portsAgree := by
  unfold State.portsAgree; decide

/-- a and b are answered, c and the read of initiator 6 stay in flight; and a request taken in the step is then in flight. -/
theorem witness_PortsGoOnAgreeing :
    ({ inOrder with pending := [answerA] } : State).portsAgree ∧
      step { inOrder with pending := [answerA] } = .next (stepOf answerA inOrder) ∧
      (stepOf answerA inOrder).answers.map (·.order) = [0, 1] ∧ (stepOf answerA inOrder).inflight.map (·.order) = [2, 3] ∧
      inOrder.nextOrder ≤ 4 ∧ 4 < (stepOf (.hostSideRequest (read 6 0x9000 1)) inOrder).nextOrder :=
  ⟨inOrder_portsAgree, inOrder_steps, by decide, by decide, by decide, by decide⟩

/-- The oldest request in flight of initiator 3 is DOWNSTREAM, of initiator 6 too, and no other initiator has one. -/
theorem inOrder_noAnswerWaits : ({ inOrder with pending := [answerA] } : State).noAnswerWaits := by
  have h : ∀ i : Initiator, ∀ e, inOrder.inflight.find? (fun e => e.request.initiator == i) = some e → e.status = .downstream := by
    intro i
    fin_cases i <;> intro e he <;> revert he <;> simp [inOrder, withWin, State.updWindow, flight, read, write1] <;>
      (try (intro h; rw [← h]))
  intro i e he a ha
  rw [h i e he] at ha
  cases ha

theorem witness_NoAnswerWaitsNeedlessly :
    ({ inOrder with pending := [answerA] } : State).portsAgree ∧ ({ inOrder with pending := [answerA] } : State).noAnswerWaits ∧
      step { inOrder with pending := [answerA] } = .next (stepOf answerA inOrder) :=
  ⟨inOrder_portsAgree, inOrder_noAnswerWaits, inOrder_steps⟩

/-- The read of place 3 stays in flight, DOWNSTREAM, and so does c, HELD; and a viewed read stays in flight with the answer ERROR. -/
theorem witness_CapturesAreFixed :
    ({ inOrder with pending := [answerA] } : State).portsAgree ∧
      step { inOrder with pending := [answerA] } = .next (stepOf answerA inOrder) ∧
      (∃ e ∈ inOrder.inflight, ∃ f ∈ (stepOf answerA inOrder).inflight, f.order = e.order ∧ e.status ≠ .held) ∧
      (∃ e ∈ inOrder.inflight, ∃ f ∈ (stepOf answerA inOrder).inflight, f.order = e.order ∧ e.status = .held) ∧
      ({ readBehind with pending := [.hostOriginCompletion 4 .error] } : State).portsAgree ∧
      step { readBehind with pending := [.hostOriginCompletion 4 .error] } =
        .next (stepOf (.hostOriginCompletion 4 .error) readBehind) ∧
      (∃ e ∈ readBehind.inflight, ∃ f ∈ (stepOf (.hostOriginCompletion 4 .error) readBehind).inflight,
        f.order = e.order ∧ e.status = .downstream ∧ f.status = .ready .error) :=
  ⟨inOrder_portsAgree, inOrder_steps, by decide, by decide, by unfold State.portsAgree; decide, by rfl, by decide⟩

/-- A write that stages beside the two entries of a line. -/
def writeQ : Instr := .hostSideRequest (write1 1 0x1041 9)

theorem witness_EntriesStayUnique :
    ({ twoFrames with pending := [writeQ] } : State).entriesUnique ∧
      step { twoFrames with pending := [writeQ] } = .next (stepOf writeQ twoFrames) ∧
      (stepOf writeQ twoFrames).pool.length = 3 :=
  ⟨by unfold State.entriesUnique; decide, by rfl, by decide⟩

/-- `twoFrames` with window 3 at its quota, and a commit waiting to drain. -/
def atQuota : State :=
  { twoFrames with
    windows := (withWin (winD fun d => { d with quota := 2 })).windows
    pool := [entry 0x40 (.committed .queued false) 0 8 0xF1, entry 0x40 .pending 4 12 0xF2]
    drainQueue := [⟨3, 0x40⟩], outstanding := [] }

/-- At the quota, a write of a new line allocates nothing. -/
theorem witness_StoreLawIsKept :
    ({ atQuota with pending := [writeQ] } : State).storeLawful ∧
      step { atQuota with pending := [writeQ] } = .next (stepOf writeQ atQuota) ∧ (stepOf writeQ atQuota).inUse 3 = 2 := by
  refine ⟨⟨?_, by decide, by decide⟩, by rfl, by decide⟩
  intro w hw
  refine ⟨by revert hw; revert w; decide, fun r hr => ?_⟩
  exact absurd hr List.not_mem_nil

/-- A window whose outstanding reserve is the whole free pool: its reserve of 512, and then of 511, equals the free count. -/
theorem witness_ReservesAreKept :
    ({ withWin (winD fun d => { d with quota := 512, reserve := 512 }) with pending := [writeQ] } : State).reserveKept ∧
      step { withWin (winD fun d => { d with quota := 512, reserve := 512 }) with pending := [writeQ] } =
        .next (stepOf writeQ (withWin (winD fun d => { d with quota := 512, reserve := 512 }))) ∧
      (stepOf writeQ (withWin (winD fun d => { d with quota := 512, reserve := 512 }))).totalReserve = 511 :=
  ⟨by unfold State.reserveKept; decide, by rfl, by decide⟩

/-- A due window at the ends of its ranges. -/
def dueWin : Window := { win with countdown := 0, due := true, writeCount := 65535, slips := 65535 }

theorem witness_WindowRecordsStayLawful :
    (({ withWin dueWin with pending := [writeQ] } : State).window 3).lawful ∧
      step { withWin dueWin with pending := [writeQ] } = .next (stepOf writeQ (withWin dueWin)) ∧
      ((stepOf writeQ (withWin dueWin)).window 3).writeCount = 65535 :=
  ⟨by unfold Window.lawful; decide, by rfl, by decide⟩

/-- A miss that loses lock, of a tracker at the ends of its ranges. -/
def edgeOfRange : Tracker :=
  { Tracker.reset with
    enable := true, tolerance := 1, qualCount := 15, missLimit := 7, state := .holdover, refPeriod := some 1000000
    expected := some 17949, missedCount := 6, earlyCount := 65535 }

theorem witness_TrackersStayLawful :
    (∀ tr, (({ onA 17950 edgeOfRange with pending := [.trackerMiss .a] } : State).tracker tr).lawful) ∧
      step { onA 17950 edgeOfRange with pending := [.trackerMiss .a] } =
        .next (stepOf (.trackerMiss .a) (onA 17950 edgeOfRange)) ∧
      (stepOf (.trackerMiss .a) (onA 17950 edgeOfRange)).trackerA.state = .seeking := by
  refine ⟨fun tr => ?_, by rfl, by decide⟩
  cases tr
  · refine ⟨by decide, by decide, by decide, by decide, by decide, by decide, fun p hp => ?_, by decide⟩
    cases hp; decide
  · refine ⟨by decide, by decide, by decide, by decide, by decide, by decide, fun p hp => ?_, by decide⟩
    cases hp

/-- The same miss fails over. -/
theorem witness_SourcesStayLawful :
    ({ onA 17950 edgeOfRange with pending := [.trackerMiss .a] } : State).sel.lawful ∧
      ({ onA 17950 edgeOfRange with pending := [.trackerMiss .a] } : State).sourcesLawful ∧
      step { onA 17950 edgeOfRange with pending := [.trackerMiss .a] } =
        .next (stepOf (.trackerMiss .a) (onA 17950 edgeOfRange)) ∧
      (stepOf (.trackerMiss .a) (onA 17950 edgeOfRange)).sel.current = .internal :=
  ⟨by unfold Selector.lawful; decide, fun tr => by cases tr <;> decide, by rfl, by decide⟩

/-! ### Witnesses: the whole machine -/

/-- SOFT is C, and the last beat was at 500. -/
def onSoft (t : Time) : State :=
  { State.reset with timeBase := t, sel := { Selector.reset with current := .soft, beatNumber := 4, lastDelivered := some 500 } }

theorem onSoft_lawful (t : Time) (c : Instr) : ({ onSoft t with pending := [c] } : State).sel.lawful := by
  show Selector.lawful { Selector.reset with current := .soft, beatNumber := 4, lastDelivered := some 500 }
  unfold Selector.lawful
  decide

/-- No beat at 599, beat 5 at 600, and a reset. -/
theorem witness_BeatsKeepTheGap :
    (∀ t c, ({ onSoft t with pending := [c] } : State).sel.lawful) ∧
      step { onSoft 599 with pending := [.beatNow] } = .next (stepOf .beatNow (onSoft 599)) ∧
      (stepOf .beatNow (onSoft 599)).sel.beatNumber = 4 ∧
      step { onSoft 600 with pending := [.beatNow] } = .next (stepOf .beatNow (onSoft 600)) ∧
      (stepOf .beatNow (onSoft 600)).sel.beatNumber = 5 ∧
      step { onSoft 600 with pending := [.hardwareReset] } = .next (stepOf .hardwareReset (onSoft 600)) :=
  ⟨onSoft_lawful, by rfl, by decide, by rfl, by decide, by rfl⟩

/-- A frame of window `v`, with entries `es`, that the generator's beat meets at 1000. -/
def atBeat (v : Window) (es : List Entry) : State := { withWin v with timeBase := 1000, pool := es }

/-- A ready frame at its due beat. -/
def ready : Window := { win with countdown := 1, ready := true }

theorem atBeat_lawful (v : Window) (es : List Entry) (c : Instr) : ({ atBeat v es with pending := [c] } : State).sel.lawful := by
  show Selector.lawful Selector.reset
  unfold Selector.lawful
  decide

/-- A commit, an OPEN and an INIT of a window that had committed. -/
theorem witness_CommitCountsCountCommits :
    (∀ v es c, ({ atBeat v es with pending := [c] } : State).sel.lawful) ∧
      step { atBeat ready [entry 0x40 .pending 0 1 7] with pending := [.internalCandidate] } =
        .next (stepOf .internalCandidate (atBeat ready [entry 0x40 .pending 0 1 7])) ∧
      ((stepOf .internalCandidate (atBeat ready [entry 0x40 .pending 0 1 7])).window 3).commitCount = 1 ∧
      step { atBeat { win with commitCount := 9 } [] with pending := [.initCommand] } =
        .next (stepOf .initCommand (atBeat { win with commitCount := 9 } [])) ∧
      ((stepOf .initCommand (atBeat { win with commitCount := 9 } [])).window 3).commitCount = 0 :=
  ⟨atBeat_lawful, by rfl, by decide, by rfl, by decide⟩

theorem witness_DescriptorsAreFixedWhileOpen :
    (({ withWin win with pending := [.descriptorWrite 3 4 ⟨1, 0xF⟩] } : State).window 3).state ≠ .off ∧
      step { withWin win with pending := [.descriptorWrite 3 4 ⟨1, 0xF⟩] } =
        .next (stepOf (.descriptorWrite 3 4 ⟨1, 0xF⟩) (withWin win)) ∧
      step { withWin win with pending := [.hardwareReset] } = .next (stepOf .hardwareReset (withWin win)) :=
  ⟨by decide, by rfl, by rfl⟩

theorem witness_WindowsLeaveOffByOpenAlone :
    step { opening 0 with pending := [.openWindow] } = .next (stepOf .openWindow (opening 0)) ∧
      (({ opening 0 with pending := [.openWindow] } : State).window 3).state = .off ∧
      ((stepOf .openWindow (opening 0)).window 3).state = .active ∧
      step { withWin win with pending := [writeQ] } = .next (stepOf writeQ (withWin win)) ∧
      ((withWin win).window 3).state ≠ .off ∧ ((stepOf writeQ (withWin win)).window 3).state = .active :=
  ⟨by rfl, by decide, by decide, by rfl, by decide, by decide⟩

/-- Example 6.8, step 1, in small: 0x40 is busy with a viewed read; the beat commits 0x40 and 0x41. -/
def busyLine : State :=
  { atBeat ready [entry 0x40 .pending 0 1 7, entry 0x41 .pending 0 1 8] with
    nextOrder := 1, inflight := [flight 0 (read 6 0x1000 1) (some 3) .downstream (some [none])]
    outstanding := [.host { down 0 (read 6 0x1000 1) with purpose := .viewedRead }] }

/-- The drain write of 0x41 is issued, and that of 0x40 is not. -/
theorem witness_NoDrainWriteOnABusyLine :
    ({ busyLine with pending := [.internalCandidate] } : State).sel.lawful ∧
      step { busyLine with pending := [.internalCandidate] } = .next (stepOf .internalCandidate busyLine) ∧
      BusRequest.drain 0x41 ((entry 0x41 .pending 0 1 8).cells.map fun c => (c.isSome, c.getD 0)) ∈
        (stepOf .internalCandidate busyLine).issued.drop busyLine.issued.length ∧
      (stepOf .internalCandidate busyLine).lineBusy 0x40 = true :=
  ⟨by show Selector.lawful Selector.reset
      unfold Selector.lawful
      decide, by rfl, by decide, by decide⟩

/-- INIT in progress: a drain write completes while a read is outstanding. -/
def duringInit : State :=
  { twoFrames with
    nextOrder := 1, port := { Port.reset with busy := true }, inflight := [flight 0 (read 6 0x9000 1) none .downstream none]
    outstanding := [.host (down 0 (read 6 0x9000 1)), .drain ⟨3, 0x40⟩] }

theorem witness_InitFreezesTheStore :
    ({ duringInit with pending := [.drainCompletion 0x40 .okay] } : State).initHoldsNothing ∧
      step { duringInit with pending := [.drainCompletion 0x40 .okay] } =
        .next (stepOf (.drainCompletion 0x40 .okay) duringInit) ∧
      duringInit.port.busy = true ∧ (stepOf (.drainCompletion 0x40 .okay) duringInit).port.busy = true ∧
      (duringInit.window 3).state ≠ .off :=
  ⟨by unfold State.initHoldsNothing; decide, by rfl, by rfl, by decide, by decide⟩

/-- Initiator 6 reads the line whose second frame is PENDING. -/
theorem witness_ConsumersSeeNoPendingByte :
    (read 6 0x1000 16).kind = .read ∧ twoFrames.windowOf (read 6 0x1000 16).line = some 3 ∧
      (twoFrames.window 3).isProducer 6 = false ∧ twoFrames.takesNext ∧ (twoFrames.pendingEntry 3 0x40).isSome = true := by
  unfold State.takesNext
  decide

/-! ### Witnesses: host-side requests -/

/-- An ATOMIC. -/
def atomic (i : Initiator) (a : Address) : Request := { initiator := i, kind := .atomic 1 [5], address := a, size := 1 }

/-- Size 0; a last byte at position 64, one past the line; a request that ends with its line is well-formed. Then the ATOMIC, the foreign
write, and the producer write to a FAULTED window. -/
theorem witness_RequestsAnsweredError :
    (withWin win).takesNext ∧ (read 1 0x1000 0).malformed = true ∧ (read 1 0x103F 2).malformed = true ∧
      (read 1 0x103F 1).malformed = false ∧ (read 1 0x1000 64).malformed = false ∧
      (withWin win).noneHeldOf 1 ∧ (withWin win).noneHeldOf 2 ∧
      ((atomic 1 0x1000).malformed = false ∧ (withWin win).windowOf (atomic 1 0x1000).line = some 3 ∧
        (atomic 1 0x1000).kind = .atomic 1 [5]) ∧
      ((write1 2 0x1000 7).malformed = false ∧ (withWin win).windowOf (write1 2 0x1000 7).line = some 3 ∧
        ((withWin win).window 3).isProducer 2 = false) ∧
      ((withWin { win with state := .faulted }).takesNext ∧ (withWin { win with state := .faulted }).noneHeldOf 1 ∧
        (withWin { win with state := .faulted }).windowOf (write1 1 0x1000 7).line = some 3 ∧
        ((withWin { win with state := .faulted }).window 3).isProducer 1 = true ∧
        ((withWin { win with state := .faulted }).window 3).state = .faulted) := by
  unfold State.takesNext State.noneHeldOf
  decide

/-- Each condition fails at its limit, alone; and a request that waits is taken, with none and with another behind it, once no condition fails. -/
theorem witness_RequestsWaitOnTheBus :
    24 ≤ (loaded 24 0 0 0).inflight.length ∧ 8 ≤ (loaded 0 8 0 0).holdQueue.length ∧ 12 ≤ (loaded 0 0 12 0).hostCount ∧
      duringInit.port.busy = true ∧ (loaded 23 7 11 4).takesNext ∧
      (∀ rest ∈ [[], [read 5 0x9000 1]],
        ({ loaded 23 7 11 4 with hostBus := read 6 0x9000 1 :: rest } : State).hostBus = read 6 0x9000 1 :: rest) ∧
      ({ ({ loaded 23 7 11 4 with hostBus := [read 6 0x9000 1] } : State) with hostBus := [] } : State).takesNext := by
  unfold State.takesNext
  decide

/-- The lines just below and just above the window's two; the two themselves belong to it. -/
theorem witness_PassThroughRequestsGoToMemory :
    (withWin win).takesNext ∧ (withWin win).noneHeldOf 1 ∧ (withWin win).waitList = [] ∧
      (read 1 0x0FFF 1).malformed = false ∧ (withWin win).windowOf (read 1 0x0FFF 1).line = none ∧
      (atomic 1 0x1080).malformed = false ∧ (withWin win).windowOf (atomic 1 0x1080).line = none ∧
      (withWin win).windowOf (read 1 0x1000 1).line = some 3 ∧ (withWin win).windowOf (read 1 0x107F 1).line = some 3 := by
  unfold State.takesNext State.noneHeldOf
  decide

/-- A MARK window whose frame is marked. -/
def marked : Window := { winD (fun d => { d with readiness := .mark }) with ready := true }

/-- A mark: one enabled byte at the first tally position. -/
def markWrite : Request := write1 1 0x1078 1

/-- Behind a held request of the same initiator; a write to a CLOSING window; a write, and a repeated mark, to a ready frame. -/
theorem witness_HeldRequestsJoinTheTail :
    (twoHeld.takesNext ∧ (read 3 0x9000 1).malformed = false ∧
        ∃ h ∈ twoHeld.holdQueue, h.request.initiator = (read 3 0x9000 1).initiator ∧ h.order < twoHeld.nextOrder) ∧
      ((withWin { win with state := .closing, closeMode := some .commit }).takesNext ∧
        (withWin { win with state := .closing, closeMode := some .commit }).noneHeldOf 1 ∧
        (withWin { win with state := .closing, closeMode := some .commit }).windowOf (write1 1 0x1000 7).line = some 3 ∧
        ((withWin { win with state := .closing, closeMode := some .commit }).window 3).isProducer 1 = true ∧
        ((withWin { win with state := .closing, closeMode := some .commit }).window 3).state = .closing) ∧
      ((withWin ready).takesNext ∧ (withWin ready).noneHeldOf 1 ∧ (write1 1 0x1000 7).malformed = false ∧
        (withWin ready).windowOf (write1 1 0x1000 7).line = some 3 ∧ ((withWin ready).window 3).isProducer 1 = true ∧
        ((withWin ready).window 3).state = .active ∧ ((withWin ready).window 3).ready = true ∧
        ((withWin ready).window 3).tallyWrite (write1 1 0x1077 7) = false) ∧
      ((withWin marked).takesNext ∧ (withWin marked).noneHeldOf 1 ∧ markWrite.malformed = false ∧
        (withWin marked).windowOf markWrite.line = some 3 ∧ ((withWin marked).window 3).ready = true ∧
        ((withWin marked).window 3).tallyWrite markWrite = true ∧ ((withWin marked).window 3).desc.readiness = .mark) := by
  unfold State.takesNext State.noneHeldOf
  decide

/-- What the writes into window 3 of these witnesses meet in common. -/
def producerMeets (s : State) (r : Request) : Prop :=
  s.takesNext ∧ r.malformed = false ∧ s.noneHeldOf r.initiator ∧ s.windowOf r.line = some 3 ∧
    (s.window 3).isProducer r.initiator = true ∧ (s.window 3).state = .active ∧ (s.window 3).ready = false

/-- A mark that enables the byte before the tally bytes too. -/
def markPlus : Request := { initiator := 1, kind := .write [(true, 5), (true, 1)], address := 0x1077, size := 2 }

/-- A write that allocates, one that merges at the quota, one that brings the count to N, and one that finds it saturated; and a mark that
enables another byte too. -/
theorem witness_StagedWritesComplete :
    (producerMeets (withWin win) (write1 1 0x1000 7) ∧ ((withWin win).window 3).tallyWrite (write1 1 0x1000 7) = false ∧
        (withWin win).noneWaitsForRoom 3 ∧ (withWin win).allocOk 3 = true) ∧
      (producerMeets atQuota (write1 1 0x103F 7) ∧ (atQuota.window 3).tallyWrite (write1 1 0x103F 7) = false ∧
        atQuota.noneWaitsForRoom 3 ∧ (atQuota.pendingEntry 3 0x40).isSome = true ∧ atQuota.allocOk 3 = false) ∧
      (producerMeets (withWin { win with writeCount := 1 }) (write1 1 0x1077 7) ∧
        ((withWin { win with writeCount := 1 }).window 3).tallyWrite (write1 1 0x1077 7) = false ∧
        min (1 + 1) (max 65535 1) = win.desc.readyCount.toNat) ∧
      producerMeets (withWin { win with writeCount := 65535 }) (write1 1 0x1000 7) ∧
      (producerMeets (withWin { marked with ready := false }) markPlus ∧
        ((withWin { marked with ready := false }).window 3).tallyWrite markPlus = true ∧
        ((withWin { marked with ready := false }).window 3).desc.readiness = .mark ∧
        ((withWin { marked with ready := false }).window 3).stagesByte markPlus = true ∧
        (withWin { marked with ready := false }).noneWaitsForRoom 3 ∧ (withWin { marked with ready := false }).allocOk 3 = true) := by
  unfold producerMeets State.takesNext State.noneHeldOf
  refine ⟨?_, ?_, ?_, ?_, ?_⟩ <;> (try unfold State.noneWaitsForRoom) <;> decide

/-- A window at its quota of 2, with the policy given; 0x40 has a COMMITTED entry alone in `b`. -/
def fullWin (p : ExhaustionPolicy) (es : List Entry) : State :=
  { withWin (winD fun d => { d with quota := 2, exhaustion := p }) with pool := es }

/-- Two entries at other lines than 0x40, or with a COMMITTED one at it. -/
def elsewhere : List Entry := [entry 0x41 (.committed .queued false) 0 1 7, entry 0x41 .pending 0 1 7]
def committedHere : List Entry := [entry 0x40 (.committed .queued false) 0 1 7, entry 0x41 .pending 0 1 7]

/-- A MARK window at its quota of 2, with the policy given. -/
def fullMark (p : ExhaustionPolicy) (es : List Entry) : State :=
  { withWin (winD fun d => { d with quota := 2, exhaustion := p, readiness := .mark }) with pool := es }

/-- Each policy, and BYPASS with and without a COMMITTED entry for the line; the same for a mark that enables another byte too. -/
theorem witness_ExhaustionFollowsThePolicy :
    (∀ p ∈ [ExhaustionPolicy.hold, .refuse, .bypass],
        producerMeets (fullWin p elsewhere) (write1 1 0x1000 7) ∧
          ((fullWin p elsewhere).window 3).tallyWrite (write1 1 0x1000 7) = false ∧
          (fullWin p elsewhere).pendingEntry 3 0x40 = none ∧ (fullWin p elsewhere).allocOk 3 = false ∧
          ((fullWin p elsewhere).window 3).desc.exhaustion = p ∧ (fullWin p elsewhere).committedEntry 3 0x40 = none ∧
          (fullWin p elsewhere).waitList = []) ∧
      (producerMeets (fullWin .bypass committedHere) (write1 1 0x1000 7) ∧
        (fullWin .bypass committedHere).pendingEntry 3 0x40 = none ∧ (fullWin .bypass committedHere).allocOk 3 = false ∧
        ((fullWin .bypass committedHere).committedEntry 3 0x40).isSome = true) ∧
      (∀ p ∈ [ExhaustionPolicy.hold, .refuse, .bypass], ∀ es ∈ [[pend, { pend with gen := comm.gen }], [pend, comm]],
        producerMeets (fullMark p es) markPlus ∧ ((fullMark p es).window 3).tallyWrite markPlus = true ∧
          ((fullMark p es).window 3).desc.readiness = .mark ∧ ((fullMark p es).window 3).stagesByte markPlus = true ∧
          (fullMark p es).pendingEntry 3 0x41 = none ∧ (fullMark p es).allocOk 3 = false ∧
          ((fullMark p es).window 3).desc.exhaustion = p ∧ (fullMark p es).noneWaitsForRoom 3) ∧
      (fullMark .bypass [pend, { pend with gen := comm.gen }]).committedEntry 3 0x41 = none ∧
      ((fullMark .bypass [pend, comm]).committedEntry 3 0x41).isSome = true := by
  unfold producerMeets State.takesNext State.noneHeldOf
  refine ⟨?_, ?_, ?_, ?_, ?_⟩ <;> (try unfold State.noneWaitsForRoom) <;> decide

/-- Positions 4 to 11 are covered for the producer, and 4 to 12 are not. In line 0x41 positions 56 to 63 are tally positions, 55 is not, and none
is in line 0x40; initiator 1 is a producer and 6 is not. -/
theorem witness_ViewedReadsComplete :
    twoFrames.takesNext ∧ (read 1 0x1004 8).malformed = false ∧ twoFrames.noneHeldOf 1 ∧
      twoFrames.windowOf (read 1 0x1004 8).line = some 3 ∧ twoFrames.waitList = [] ∧
      (∀ i < 8, (twoFrames.viewByte 3 1 0x40 ((read 1 0x1004 8).offset + i)).isSome = true) ∧
      (∃ i < 9, twoFrames.viewByte 3 1 0x40 ((read 1 0x1004 9).offset + i) = none) ∧
      ((twoFrames.window 3).desc.tally = true ∧ 56 ≤ 56 ∧ 56 ≤ 63 ∧ ¬ 56 ≤ 55 ∧
        (read 1 0x1040 64).line.toNat + 1 = (twoFrames.window 3).desc.base.toNat + (twoFrames.window 3).desc.size.toNat ∧
        (read 1 0x1000 64).line.toNat + 1 ≠ (twoFrames.window 3).desc.base.toNat + (twoFrames.window 3).desc.size.toNat) ∧
      (twoFrames.window 3).isProducer 1 = true ∧ (twoFrames.window 3).isProducer 6 = false := by
  unfold State.takesNext State.noneHeldOf
  decide

/-- The tally word of window 3 is the last 8 bytes of line 0x41; a consumer reads it in a FAULTED window. -/
theorem witness_TallyWordReads :
    (withWin { win with state := .faulted, commitCount := 0x01020304 }).takesNext ∧
      (withWin { win with state := .faulted, commitCount := 0x01020304 }).noneHeldOf 6 ∧
      (withWin { win with state := .faulted, commitCount := 0x01020304 }).windowOf (read 6 0x1078 8).line = some 3 ∧
      (read 6 0x1078 8).offset = 56 ∧ win.desc.tally = true ∧
      (read 6 0x1078 8).line.toNat + 1 = win.desc.base.toNat + win.desc.size.toNat := by
  unfold State.takesNext State.noneHeldOf
  decide

/-- A tally write in a COUNT window, and a mark that enables tally bytes alone in a MARK window. -/
theorem witness_TallyWrites :
    (producerMeets (withWin win) markWrite ∧ ((withWin win).window 3).tallyWrite markWrite = true ∧
        ((withWin win).window 3).desc.readiness ≠ .mark) ∧
      (producerMeets (withWin { marked with ready := false }) markWrite ∧
        ((withWin { marked with ready := false }).window 3).tallyWrite markWrite = true ∧
        ((withWin { marked with ready := false }).window 3).desc.readiness = .mark ∧
        ((withWin { marked with ready := false }).window 3).stagesByte markWrite = false ∧
        (withWin { marked with ready := false }).noneWaitsForRoom 3) := by
  unfold producerMeets State.takesNext State.noneHeldOf State.noneWaitsForRoom
  decide

/-- `twoHeld` with y a write to window 3, now CLOSING. -/
def twoClosing : State :=
  { withWin { winD (fun d => { d with producers := 0x0008 }) with state := .closing, closeMode := some .commit } with
    timeBase := 1500, nextOrder := 2
    inflight := [flight 0 (write1 3 0x1000 7) (some 3) .held none, flight 1 (write1 3 0x1001 8) (some 3) .held none]
    holdQueue := [{ heldAt 0 (write1 3 0x1000 7) .closing (some 3) with deadline := 1500 },
      { heldAt 1 (write1 3 0x1001 8) .order (some 3) with deadline := 1600 }] }

/-- x, y and z of one initiator, of which y, in the middle, is past its deadline. -/
def threeHeld : State :=
  { twoHeld with
    holdQueue := [heldAt 0 (write1 3 0x1000 7) .exhausted (some 3),
      { heldAt 1 (read 3 0x9000 1) .order none with deadline := 1499 }, heldAt 2 (read 3 0x9000 1) .order none] }

/-- x at its deadline and, behind it, a request `r` of the same initiator held ORDER, with window 3 and the pool as given. -/
def behind (v : Window) (r : Request) : State :=
  { withWin v with
    timeBase := 1500, nextOrder := 2, pool := [pend]
    inflight := [flight 0 (write1 3 0x1000 7) (some 3) .held none, flight 1 r (some 3) .held none]
    holdQueue := [{ heldAt 0 (write1 3 0x1000 7) .exhausted (some 3) with deadline := 1500 },
      { heldAt 1 r .order (some 3) with deadline := 1600 }] }

/-- Initiator 3 produces into window 3. -/
def by3 : Window := winD fun d => { d with producers := 0x0008 }

/-- The other outcomes of the request behind: a READ covered and not covered by its capture; an ATOMIC; a foreign write; a write to a FAULTED window,
to a ready frame, and one that merges and one that allocates. -/
theorem witness_HeldRequestsTimeOut_behind :
    (∀ x ∈ [(by3, read 3 0x1000 1), (by3, read 3 0x1000 2), (by3, atomic 3 0x1000), (win, write1 3 0x1000 7),
          ({ by3 with state := .faulted }, write1 3 0x1000 7), ({ by3 with ready := true }, write1 3 0x1000 7),
          (by3, write1 3 0x1000 7), (by3, write1 3 0x1040 7)],
        (behind x.1 x.2).portsAgree ∧ ((behind x.1 x.2).holdQueue.map (·.order)).Nodup ∧
          (behind x.1 x.2).windowOf x.2.line = some 3 ∧ x.2.initiator = 3 ∧ (behind x.1 x.2).waitList = [] ∧
          (behind x.1 x.2).hostCount < 12) ∧
      ((behind by3 (read 3 0x1000 1)).viewByte 3 3 0x40 0 = some 7 ∧
        (behind by3 (read 3 0x1000 2)).viewByte 3 3 0x40 1 = none) ∧
      (win.isProducer 3 = false ∧ by3.isProducer 3 = true ∧ by3.state = .active ∧ by3.ready = false ∧
        by3.tallyWrite (write1 3 0x1000 7) = false ∧ by3.tallyWrite (write1 3 0x1040 7) = false) ∧
      ((behind by3 (write1 3 0x1000 7)).pendingEntry 3 0x40).isSome = true ∧
      ((behind by3 (write1 3 0x1040 7)).pendingEntry 3 0x41 = none ∧ (behind by3 (write1 3 0x1040 7)).allocOk 3 = true) :=
  ⟨by unfold State.portsAgree; decide, by decide, by decide, by decide, by decide⟩

/-- Example 4.7 at 1500, the deadline itself: x with y behind it, which is passed through; with y a write to a CLOSING window; x alone; and y in
the middle, with z still behind x. -/
theorem witness_HeldRequestsTimeOut :
    (twoHeld.holdQueue =
          [] ++ { heldAt 0 (write1 3 0x1000 7) .exhausted (some 3) with deadline := 1500 } ::
            ([] ++ { heldAt 1 (read 3 0x9000 1) .order none with deadline := 1600 } :: []) ∧
        1500 ≤ twoHeld.timeBase ∧ (twoHeld.holdQueue.map (·.order)).Nodup ∧ twoHeld.portsAgree ∧
        twoHeld.notif.mask.getLsbD 7 = true ∧ twoHeld.windowOf (read 3 0x9000 1).line = none ∧ twoHeld.waitList = [] ∧
        twoHeld.hostCount < 12) ∧
      (twoClosing.holdQueue =
          [] ++ { heldAt 0 (write1 3 0x1000 7) .closing (some 3) with deadline := 1500 } ::
            ([] ++ { heldAt 1 (write1 3 0x1001 8) .order (some 3) with deadline := 1600 } :: []) ∧
        twoClosing.portsAgree ∧ (twoClosing.holdQueue.map (·.order)).Nodup ∧
        twoClosing.windowOf (write1 3 0x1001 8).line = some 3 ∧ (twoClosing.window 3).isProducer 3 = true ∧
        (twoClosing.window 3).state = .closing) ∧
      (({ twoHeld with holdQueue := twoHeld.holdQueue.take 1 } : State).holdQueue =
          [] ++ { heldAt 0 (write1 3 0x1000 7) .exhausted (some 3) with deadline := 1500 } :: []) ∧
      (threeHeld.holdQueue =
          [heldAt 0 (write1 3 0x1000 7) .exhausted (some 3)] ++
            { heldAt 1 (read 3 0x9000 1) .order none with deadline := 1499 } :: [heldAt 2 (read 3 0x9000 1) .order none] ∧
        1499 ≤ threeHeld.timeBase ∧ (threeHeld.holdQueue.map (·.order)).Nodup ∧
        ∀ g ∈ [heldAt 0 (write1 3 0x1000 7) .exhausted (some 3), heldAt 2 (read 3 0x9000 1) .order none],
          g.request.initiator = 3 → g.reason = .order → 1 < g.order →
            ∃ k ∈ [heldAt 0 (write1 3 0x1000 7) .exhausted (some 3), heldAt 2 (read 3 0x9000 1) .order none],
              k.request.initiator = 3 ∧ k.order < g.order) := by
  unfold State.portsAgree
  decide

/-! ### Witnesses: answers from memory -/

/-- One request in flight, of place 0, with memory. -/
def withMemory (r : Request) (cap : Option (List (Option Byte))) : State :=
  { State.reset with nextOrder := 1, inflight := [flight 0 r none .downstream cap], outstanding := [.host (down 0 r)] }

/-- ERROR; OKAY for a write, an atomic, a read with nothing captured and a read with a byte captured; during INIT, with a drain write left, and
as the last thing INIT waits for. -/
theorem witness_HostOriginCompletions :
    (∀ r ∈ [write1 1 0x9000 7, atomic 1 0x9000, read 1 0x9000 1],
        (withMemory r none).outstanding = [] ++ .host (down 0 r) :: [] ∧ (withMemory r none).port.busy = false ∧
          ((withMemory r none).inflightAt 0).bind (·.capture) = none) ∧
      (write1 1 0x9000 7).kind = .write [(true, 7)] ∧ (atomic 1 0x9000).kind = .atomic 1 [5] ∧
      (read 1 0x9000 1).kind = .read ∧ ([0xA] : List Byte).length = (read 1 0x9000 1).size ∧
      ((withMemory (read 1 0x9000 2) (some [none, some 0xC])).inflightAt 0).bind (·.capture) = some [none, some 0xC] ∧
      [none, some (0xC : Byte)].length = ([0xA, 0xB] : List Byte).length ∧
      (duringInit.outstanding = [] ++ .host (down 0 (read 6 0x9000 1)) :: [.drain ⟨3, 0x40⟩] ∧ duringInit.port.busy = true ∧
        ((({ duringInit with outstanding := [.drain ⟨3, 0x40⟩] } : State).determine 0 6 .error).issueHost).outstanding ≠ []) ∧
      (({ withMemory (read 1 0x9000 1) none with port := duringInit.port } : State).port.busy = true ∧
        ((({ withMemory (read 1 0x9000 1) none with port := duringInit.port, outstanding := [] } : State).determine 0 1
            .error).issueHost).inflight = [] ∧
        ((({ withMemory (read 1 0x9000 1) none with port := duringInit.port, outstanding := [] } : State).determine 0 1
            .error).issueHost).outstanding = []) := by decide

/-- No host-origin request at all, and one for another place; no drain write, and one of another line. -/
theorem witness_UnmatchedAnswersAreIgnored :
    (∀ o ∈ drainingA.outstanding, o.serves 0 = false) ∧
      (∀ o ∈ (withMemory (read 1 0x9000 1) none).outstanding, o.serves 1 = false) ∧
      (∀ o ∈ (withMemory (read 1 0x9000 1) none).outstanding, o.drains 0x40 = false) ∧
      (∀ o ∈ drainingA.outstanding, o.drains 0x41 = false) := by decide

/-- `drainingA` with window 3 as given. -/
def drainingOf (v : Window) : State := { drainingA with windows := (withWin v).windows }

/-- The window at a quota of 1, ACTIVE or CLOSING. -/
def tight : Window := winD fun d => { d with quota := 1 }
def tightClosing : Window := { tight with state := .closing, closeMode := some .commit }

/-- The window of the witnesses below holds the write. -/
theorem holding_heldWrite (v : Window) (a : Address) (reason : HoldReason)
    (h : (drainingOf v).windowOf (write1 1 a 7).line = some 3 ∧ v.isProducer 1 = true ∧ v.tallyWrite (write1 1 a 7) = false) :
    (holding (drainingOf v) (write1 1 a 7) reason).heldWrite (heldAt 0 (write1 1 a 7) reason (some 3)) 3 :=
  ⟨rfl, rfl, h.1, ⟨_, rfl⟩, h.2⟩

/-- Of an ACTIVE window that keeps its state, and of a CLOSING one that becomes OFF; with an EXHAUSTED and a LINE_DRAINING write that the
free gives room, at the quota, and with a write held CLOSING. -/
theorem witness_DrainWritesComplete :
    (drainingA.outstanding = [] ++ .drain ⟨3, 0x40⟩ :: [] ∧ drainingA.port.busy = false ∧
        (drainingA.committedEntry 3 0x40).isSome = true ∧ drainingA.holdQueue = [] ∧ (drainingA.window 3).state ≠ .closing) ∧
      ((drainingOf tightClosing).window 3).state = .closing ∧
      (∀ e ∈ (drainingOf tightClosing).pool, e.window = 3 → e.isCommittedOf 3 0x40 = true) ∧
      (∀ x ∈ [(0x1040, HoldReason.exhausted), (0x1001, .lineDraining)],
        (holding (drainingOf tight) (write1 1 x.1 7) x.2).portsAgree ∧
          (holding (drainingOf tight) (write1 1 x.1 7) x.2).reserveKept ∧
          (holding (drainingOf tight) (write1 1 x.1 7) x.2).inUse 3 ≤ tight.desc.quota.toNat ∧
          ((holding (drainingOf tight) (write1 1 x.1 7) x.2).window 3).state = .active ∧
          ((holding (drainingOf tight) (write1 1 x.1 7) x.2).window 3).ready = false) ∧
      (write1 1 0x1001 7).line = 0x40 ∧
      (holding (drainingOf tight) (write1 1 0x1040 7) .exhausted).heldWrite (heldAt 0 (write1 1 0x1040 7) .exhausted (some 3)) 3 ∧
      (holding (drainingOf tight) (write1 1 0x1001 7) .lineDraining).heldWrite
        (heldAt 0 (write1 1 0x1001 7) .lineDraining (some 3)) 3 ∧
      ((holding (drainingOf tightClosing) (write1 1 0x1001 7) .closing).portsAgree ∧
        (∀ u, u ≠ 3 → ((holding (drainingOf tightClosing) (write1 1 0x1001 7) .closing).window u).state = .off) ∧
        (holding (drainingOf tightClosing) (write1 1 0x1001 7) .closing).waitList = [] ∧
        (holding (drainingOf tightClosing) (write1 1 0x1001 7) .closing).hostCount < 12) :=
  ⟨by decide, by decide, by decide, by unfold State.portsAgree State.reserveKept; decide, by decide,
    holding_heldWrite _ _ _ (by decide), holding_heldWrite _ _ _ (by decide), by unfold State.portsAgree; decide⟩

/-- `drainingA` before any error, its line free or busy with a read. -/
def drainingNew : State := { drainingA with pool := [entry 0x40 (.committed .issued false) 0 1 7] }
def drainingBusy : State := { drainingNew with outstanding := drainingNew.outstanding ++ [.host (down 0 (read 6 0x1000 1))] }

/-- A state with window 3 FAULTED, the argument register naming CLOSE(3, DISCARD), and commands waiting. -/
def closingFaulted (s : State) (q : List Instr) : State :=
  { s with windows := (withWin { win with state := .faulted }).windows, port := arg3 .discard, pending := q }

/-- `drainingNew` and `drainingBusy` with window 3 FAULTED and its CLOSE directly behind the completion. -/
def closeBehind : State := closingFaulted drainingNew [.closeWindow]
def closeBehindBusy : State := closingFaulted drainingBusy [.closeWindow]

/-- R120, second row: a CLOSE(3, DISCARD) of the FAULTED window 3 that comes together with a first error. Completion first: the entry is
QUEUED, nothing goes to memory, the CLOSE frees it and the window is OFF, its line busy or free. CLOSE first: the entry, still ISSUED,
returns to the queue of the CLOSING window and is issued again. -/
theorem test_close_with_first_error :
    (∀ s ∈ [closeBehind, closeBehindBusy],
      (after (.drainCompletion 0x40 .error) s).pool = [entry 0x40 (.committed .queued true) 0 1 7] ∧
        (after (.drainCompletion 0x40 .error) s).issued = s.issued ∧
        (after .closeWindow (after (.drainCompletion 0x40 .error) s)).pool = [] ∧
        ((after .closeWindow (after (.drainCompletion 0x40 .error) s)).window 3).state = .off) ∧
      (after (.drainCompletion 0x40 .error) (after .closeWindow closeBehind)).pool = [entry 0x40 (.committed .issued true) 0 1 7] ∧
      ((after (.drainCompletion 0x40 .error) (after .closeWindow closeBehind)).window 3).state = .closing := by decide

/-- R115, R16: a CLOSE(3, DISCARD) that comes later finds the entry issued again and leaves it, so that window 3 stays CLOSING; with the
line busy it finds the entry QUEUED and frees it. -/
theorem test_close_after_first_error :
    ((after .closeWindow (after (.drainCompletion 0x40 .error) (closingFaulted drainingNew []))).window 3).state = .closing ∧
      ((after .closeWindow (after (.drainCompletion 0x40 .error) (closingFaulted drainingBusy []))).window 3).state = .off := by decide

theorem witness_FirstDrainErrors :
    drainingNew.withinLimits ∧ drainingNew.outstanding = [] ++ .drain ⟨3, 0x40⟩ :: [] ∧ drainingNew.port.busy = false ∧
      drainingNew.committedEntry 3 0x40 = some (entry 0x40 (.committed .issued false) 0 1 7) ∧
      (entry 0x40 (.committed .issued false) 0 1 7).errorMet = false ∧ drainingNew.lineBusy 0x40 = false ∧
      drainingNew.closesNext 3 = false ∧ drainingBusy.withinLimits ∧
      drainingBusy.outstanding = [] ++ .drain ⟨3, 0x40⟩ :: [.host (down 0 (read 6 0x1000 1))] ∧
      drainingBusy.committedEntry 3 0x40 = some (entry 0x40 (.committed .issued false) 0 1 7) ∧
      drainingBusy.lineBusy 0x40 = true ∧ drainingBusy.closesNext 3 = false := by
  unfold State.withinLimits
  decide

/-- Of a FAULTED window, with its CLOSE directly behind, given as CLOSE and as a write of the command register. -/
theorem witness_FirstDrainErrors_close :
    ∀ q ∈ [[Instr.closeWindow], [.registerWrite 0x050 { value := 2, lanes := 1 }, .pop]],
      (closingFaulted drainingNew q).withinLimits ∧ (closingFaulted drainingNew q).outstanding = [] ++ .drain ⟨3, 0x40⟩ :: [] ∧
        (closingFaulted drainingNew q).port.busy = false ∧
        (closingFaulted drainingNew q).committedEntry 3 0x40 = some (entry 0x40 (.committed .issued false) 0 1 7) ∧
        (closingFaulted drainingNew q).closesNext 3 = true := by
  unfold State.withinLimits
  decide

/-- Of an ACTIVE window and of a FAULTED one; with a write held CLOSING, FRAME_READY or EXHAUSTED. -/
theorem witness_SecondDrainErrors :
    drainingA.outstanding = [] ++ .drain ⟨3, 0x40⟩ :: [] ∧ drainingA.port.busy = false ∧
      drainingA.committedEntry 3 0x40 = some (entry 0x40 (.committed .issued true) 0 1 7) ∧
      (entry 0x40 (.committed .issued true) 0 1 7).errorMet = true ∧ (drainingA.window 3).state ≠ .off ∧
      ((drainingOf { win with state := .faulted }).window 3).state = .faulted ∧ drainingA.holdQueue = [] ∧
      (∀ x ∈ [(tightClosing, HoldReason.closing), ({ win with ready := true }, .frameReady), (tight, .exhausted)],
        (holding (drainingOf x.1) (write1 1 0x1040 7) x.2).portsAgree ∧
          ((holding (drainingOf x.1) (write1 1 0x1040 7) x.2).window 3).state ≠ .faulted) ∧
      (holding (drainingOf tightClosing) (write1 1 0x1040 7) .closing).heldWrite (heldAt 0 (write1 1 0x1040 7) .closing (some 3)) 3 ∧
      (holding (drainingOf { win with ready := true }) (write1 1 0x1040 7) .frameReady).heldWrite
        (heldAt 0 (write1 1 0x1040 7) .frameReady (some 3)) 3 ∧
      (holding (drainingOf tight) (write1 1 0x1040 7) .exhausted).heldWrite (heldAt 0 (write1 1 0x1040 7) .exhausted (some 3)) 3 :=
  ⟨by decide, by decide, by decide, by decide, by decide, by decide, by decide, by unfold State.portsAgree; decide,
    holding_heldWrite _ _ _ (by decide), holding_heldWrite _ _ _ (by decide), holding_heldWrite _ _ _ (by decide)⟩

/-- A drain completion that is not the last thing INIT waits for, and one that is. -/
theorem witness_DrainCompletionsDuringInit :
    (duringInit.outstanding = [.host (down 0 (read 6 0x9000 1))] ++ .drain ⟨3, 0x40⟩ :: [] ∧
        (∀ o ∈ [Outstanding.host (down 0 (read 6 0x9000 1))], o.drains 0x40 = false) ∧ duringInit.port.busy = true ∧
        duringInit.inflight ≠ []) ∧
      (({ twoFrames with port := duringInit.port } : State).outstanding = [] ++ .drain ⟨3, 0x40⟩ :: [] ∧
        ({ twoFrames with port := duringInit.port } : State).inflight = []) := by decide

/-! ### Witnesses: trackers and the selector -/

theorem witness_EdgesAtAnIdleTracker :
    (State.reset.tracker .a).state = .disabled ∧
      (({ State.reset with trackerB := { Tracker.reset with enable := true, state := .seeking } } : State).tracker .b).state =
        .seeking := by decide

/-- The BEAT_A tracker QUALIFYING (T = 50, Q = 4), its last edge at 1000, at time 1000 + `interval`. -/
def qualifying (p : Option Nat) (g interval : Nat) : State :=
  { State.reset with
    timeBase := 1000 + interval
    trackerA := { Tracker.reset with
      enable := true, state := .qualifying, refPeriod := p, goodCount := g, lastEdge := some 1000 } }

/-- The interval may be any; the ends of the ranges of R131 and R132, on both sides; a good count below Q and one that reaches it; and a
first good edge that reaches Q = 2. -/
theorem witness_EdgesAtAQualifyingTracker :
    (∀ p g interval, ((qualifying p g interval).tracker .a).state = .qualifying ∧
        ((qualifying p g interval).tracker .a).lastEdge = some 1000 ∧
        (qualifying p g interval).timeBase = 1000 + interval ∧ ((qualifying p g interval).tracker .a).refPeriod = p) ∧
      ((100 ≤ 100 ∧ 100 ≤ 1000000) ∧ (100 ≤ 1000000 ∧ 1000000 ≤ 1000000) ∧ ¬ (100 ≤ 99 ∧ 99 ≤ 1000000) ∧
        ¬ (100 ≤ 1000001 ∧ 1000001 ≤ 1000000)) ∧
      ((1000 ≤ 950 + 50 ∧ 950 ≤ 1000 + 50) ∧ (1000 ≤ 1050 + 50 ∧ 1050 ≤ 1000 + 50) ∧ ¬ (1000 ≤ 949 + 50) ∧
        ¬ (1051 ≤ 1000 + 50)) ∧
      (2 + 1 < ((qualifying (some 1000) 2 0).tracker .a).qualCount.toNat ∧
        ((qualifying (some 1000) 3 0).tracker .a).qualCount.toNat ≤ 3 + 1) ∧
      (({ (qualifying none 1 1000).trackerA with qualCount := 2 } : Tracker).state = .qualifying ∧
        ({ (qualifying none 1 1000).trackerA with qualCount := 2 } : Tracker).refPeriod = none ∧
        ({ (qualifying none 1 1000).trackerA with qualCount := 2 } : Tracker).qualCount.toNat ≤ 2) :=
  ⟨fun _ _ _ => ⟨rfl, rfl, rfl, rfl⟩, by omega, by omega, by decide, by decide⟩

/-- Expected at 17,900 with T = 50: early at 17,849; accepted at 17,850 and at 17,950. No frame: every window OFF, with the tracker's source C
and P; and during INIT. -/
theorem witness_EdgesAtALockedTracker :
    (∀ t, (onA t trackA).tracker .a = trackA ∧ (onA t trackA).timeBase = t) ∧ trackA.state = .locked ∧
      trackA.expected = some 17900 ∧ trackA.refPeriod = some 1000 ∧
      17849 + trackA.tolerance.toNat < 17900 ∧ 17900 ≤ 17850 + trackA.tolerance.toNat ∧
      17950 ≤ 17900 + trackA.tolerance.toNat ∧ (onA 17900 trackA).noFrame ∧ (switching 16700).noFrame ∧ duringInit.noFrame :=
  ⟨fun _ => ⟨rfl, rfl⟩, by unfold State.noFrame; decide⟩

/-- Due at 17,950: the second miss is below M = 3, and the third is at it; with BEAT_A current and the enable set, with the enable clear, and with
another source current. -/
theorem witness_TrackerMisses :
    (∀ v, (onA 17950 v).tracker .a = v ∧ (onA 17950 v).timeBase = 17950) ∧ 17900 + trackA.tolerance.toNat ≤ 17950 ∧
      1 + 1 < trackA.missLimit.toNat ∧ trackA.missLimit.toNat ≤ 2 + 1 ∧
      (onA 17950 trackA).sel.current = BeatLine.a.source ∧ (onA 17950 trackA).sel.failoverEnable = true ∧
      (onA 17950 trackA).sel.lastDelivered = some 16900 ∧
      ¬ ((switching 17950).sel.current = BeatLine.a.source ∧ (switching 17950).sel.failoverEnable = true) ∧
      (onA 17950 trackA).noFrame ∧ (switching 17950).noFrame :=
  ⟨fun _ => ⟨rfl, rfl⟩, by unfold State.noFrame; decide⟩

/-- Due at the moment itself, and passed over where INTERNAL is neither C nor P. -/
theorem witness_InternalCandidates :
    (atBeat win []).sel.nextTime = (atBeat win []).timeBase ∧ (onA 50000 trackA).sel.nextTime ≤ (onA 50000 trackA).timeBase ∧
      (onA 50000 trackA).sel.current ≠ .internal ∧ (onA 50000 trackA).sel.target = none ∧ (onA 50000 trackA).noFrame ∧
      ({ duringInit with timeBase := 1000 } : State).noFrame := by
  unfold State.noFrame
  decide

/-! ### Witnesses: windows at a beat -/

/-- `atBeat` with C and P as given, the last beat at 900, exactly the minimum gap before, and the BEAT_A tracker in lock. -/
def atBeatOf (c : Source) (p : Option Source) (v : Window) (es : List Entry) : State :=
  { atBeat v es with
    sel := { Selector.reset with current := c, target := p, lastDelivered := some 900 }
    trackerA := { trackA with expected := some 950 } }

theorem atBeatOf_comes (c x : Source) (p : Option Source) (v : Window) (es : List Entry) (i : Instr)
    (ho : (atBeatOf c p v es).offers i x) (hx : x = c ∨ p = some x) : (atBeatOf c p v es).beatComesBy i x := by
  refine ⟨ho, hx, fun d hd => ?_, rfl⟩
  cases hd
  show 900 + (100 : BitVec 16).toNat ≤ 1000
  decide

/-- A beat comes to every `atBeat`; and by each command that makes a candidate, of C, and of P. -/
theorem atBeat_beatComes (v : Window) (es : List Entry) :
    (atBeat v es).beatComesBy .internalCandidate .internal ∧ (atBeat v es).window 3 = v ∧
      (atBeatOf .internal none v es).beatComesBy .internalCandidate .internal ∧
      (atBeatOf .soft none v es).beatComesBy .beatNow .soft ∧ (atBeatOf .internal (some .soft) v es).beatComesBy .beatNow .soft ∧
      (atBeatOf .beatA none v es).beatComesBy (.beatEdge .a) .beatA ∧
      (atBeatOf .internal (some .beatA) v es).beatComesBy (.beatEdge .a) .beatA ∧
      (atBeatOf .beatA none v es).beatComesBy (.trackerMiss .a) .beatA ∧
      ∀ c p, (atBeatOf c p v es).window 3 = v := by
  have hi : ∀ s : State, s.sel.nextTime = 1000 → s.timeBase = 1000 → s.offers .internalCandidate .internal :=
    fun s hn ht => Or.inl ⟨rfl, rfl, by rw [hn, ht]⟩
  have hs : ∀ s : State, s.offers .beatNow .soft := fun s => Or.inr (Or.inl ⟨rfl, rfl⟩)
  have he : ∀ c p, (atBeatOf c p v es).offers (.beatEdge .a) .beatA := fun c p =>
    Or.inr (Or.inr ⟨.a, 950, 1000, rfl, rfl, rfl, rfl, Or.inl ⟨rfl, by show (950 : Nat) ≤ 1000 + 50; decide, by show (1000 : Nat) ≤ 950 + 50; decide⟩⟩)
  have hm : ∀ c p, (atBeatOf c p v es).offers (.trackerMiss .a) .beatA := fun c p =>
    Or.inr (Or.inr ⟨.a, 950, 1000, rfl, rfl, rfl, rfl, Or.inr ⟨rfl, by show (950 : Nat) + 50 ≤ 1000; decide, by show (0 : Nat) + 1 < 3; decide⟩⟩)
  exact ⟨⟨hi _ rfl rfl, Or.inl rfl, fun d hd => (by cases hd), rfl⟩, rfl,
    atBeatOf_comes _ _ _ v es _ (hi _ rfl rfl) (Or.inl rfl), atBeatOf_comes _ _ _ v es _ (hs _) (Or.inl rfl),
    atBeatOf_comes _ _ _ v es _ (hs _) (Or.inr rfl), atBeatOf_comes _ _ _ v es _ (he _ _) (Or.inl rfl),
    atBeatOf_comes _ _ _ v es _ (he _ _) (Or.inr rfl), atBeatOf_comes _ _ _ v es _ (hm _ _) (Or.inl rfl), fun _ _ => rfl⟩

/-- In every `atBeat` no other window has a frame, and nothing is held. -/
theorem atBeat_alone (v : Window) (es : List Entry) :
    (atBeat v es).holdQueue = [] ∧
      ∀ u, u ≠ 3 → ((atBeat v es).window u).state = .off ∨ ((atBeat v es).window u).state = .faulted := by
  refine ⟨rfl, fun u hu => Or.inl ?_⟩
  fin_cases u <;> first | exact absurd rfl hu | rfl

/-- With `atBeat_beatComes`: not due; due and idle; a commit in ANY and in COUNT mode, and a null commit; a slip; a late frame under each policy,
at its first due beat and at a later one; and a commit with a write held FRAME_READY. -/
theorem witness_ActiveWindowsAtABeat :
    (win.due = false ∧ win.state = .active ∧ 2 ≤ win.countdown) ∧
      (ready.due = false ∧ ready.countdown = 1 ∧ ready.state = .active ∧ dueWin.due = true ∧ dueWin.state = .active) ∧
      ((atBeat dueWin []).pendingLines 3 = [] ∧ dueWin.ready = false) ∧
      ((winD fun d => { d with readiness := .any }).desc.readiness = .any ∧ (atBeat win [pend]).pendingLines 3 ≠ [] ∧
        (atBeat win [pend]).committedLines 3 = []) ∧
      (ready.desc.readiness ≠ .any ∧ ready.ready = true ∧ (atBeat ready []).pendingLines 3 = [] ∧
        (atBeat ready []).committedLines 3 = []) ∧
      (atBeat ready [pend, comm]).committedLines 3 ≠ [] ∧
      (dueWin.desc.readiness ≠ .any ∧ dueWin.desc.late = .carry ∧ (atBeat dueWin [pend]).pendingLines 3 ≠ [] ∧
        (winD fun d => { d with late := .discard }).desc.late = .discard ∧ (atBeat dueWin [pend]).holdQueue = []) ∧
      ((holding (atBeat ready [pend]) (write1 1 0x1001 8) .frameReady).portsAgree ∧
        (holding (atBeat ready [pend]) (write1 1 0x1001 8) .frameReady).heldWrite
          (heldAt 0 (write1 1 0x1001 8) .frameReady (some 3)) 3 ∧
        (holding (atBeat ready [pend]) (write1 1 0x1001 8) .frameReady).allocOk 3 = true ∧
        (holding (atBeat ready [pend]) (write1 1 0x1001 8) .frameReady).beatComesBy .internalCandidate .internal) :=
  ⟨by decide, by decide, by decide, by decide, by decide, by decide, by decide,
    by unfold State.portsAgree; decide, ⟨rfl, rfl, by decide, ⟨_, rfl⟩, by decide, by decide⟩, by decide,
    Or.inl ⟨rfl, rfl, Nat.le_refl _⟩, Or.inl rfl, fun d hd => (by cases hd), rfl⟩

/-- A CLOSING window in COMMIT mode. -/
def closing : Window := { win with state := .closing, closeMode := some .commit }

/-- With `atBeat_beatComes`: the windows left unchanged; the final commit; the count and the slip behind the committed set. -/
theorem witness_OtherWindowsAtABeat :
    (Window.cleared Descriptor.reset).state = .off ∧ ({ win with state := .faulted } : Window).state = .faulted ∧
      ({ closing with closeMode := some .discard } : Window).closeMode = some .discard ∧
      (closing.state = .closing ∧ closing.closeMode = some .commit) ∧ (atBeat closing []).pendingLines 3 = [] ∧
      ((atBeat closing [pend]).pendingLines 3 ≠ [] ∧ (atBeat closing [pend]).committedLines 3 = []) ∧
      ((atBeat closing [pend, comm]).pendingLines 3 ≠ [] ∧ (atBeat closing [pend, comm]).committedLines 3 ≠ [] ∧
        closing.due = false ∧ 2 ≤ closing.countdown ∧ ({ closing with countdown := 1 } : Window).countdown = 1) := by
  decide

/-! ### Witnesses: commands of the slot -/

/-- The argument names the OFF window 3; the room that is left over meets a reserve of 511 and not one of 512; the ends of the ranges of checks 2,
5 and 6. -/
theorem witness_OpenMakesItsChecks :
    ((opening 511).port.busy = false ∧ (opening 511).port.argument.window = 3 ∧ ((opening 511).window 3).state = .off) ∧
      ¬ (opening 511).freeCount < (opening 511).totalReserve + 511 ∧ (opening 512).freeCount < (opening 512).totalReserve + 512 ∧
      ((withWin win).window 3).state ≠ .off ∧
      (∀ n ∈ [1, 4096], 1 ≤ (BitVec.ofNat 13 n).toNat ∧ (BitVec.ofNat 13 n).toNat ≤ 4096) ∧
      (∀ n ∈ [0, 4097], ¬ (1 ≤ (BitVec.ofNat 13 n).toNat ∧ (BitVec.ofNat 13 n).toNat ≤ 4096)) ∧
      ¬ (2 ^ 48 < (BitVec.ofNat 42 (2 ^ 42 - 2)).toNat * 64 + 2 * 64) ∧ 2 ^ 48 < (BitVec.ofNat 42 (2 ^ 42 - 2)).toNat * 64 + 3 * 64 ∧
      ¬ (0x40 < 0x3E + 2 ∧ 0x3E < 0x40 + 2) ∧ (0x40 < 0x3F + 2 ∧ 0x3F < 0x40 + 2) ∧ (0x41 < 0x40 + 2 ∧ 0x40 < 0x41 + 2) ∧
      ¬ (0x42 < 0x40 + 2) := by
  decide

/-- Window 3 with two entries, COMMITTED QUEUED and PENDING, and a CLOSE waiting with mode `m`. -/
def toClose (v : Window) (m : CloseMode) (es : List Entry) : State := { withWin v with pool := es, port := arg3 m }

/-- Each cell of the table; an ACTIVE window that owns nothing becomes OFF, and one that owns an entry does not; and a write held FRAME_READY
or EXHAUSTED for a window that stays CLOSING. -/
theorem witness_CloseFollowsTheTable :
    (∀ v m es, (toClose v m es).port.busy = false ∧ (toClose v m es).port.argument.window = 3 ∧
        (toClose v m es).port.argument.mode = m ∧ (toClose v m es).window 3 = v) ∧
      (Window.cleared Descriptor.reset).state = .off ∧ ({ win with state := .faulted } : Window).state = .faulted ∧
      closing.state = .closing ∧ closing.closeMode = some .commit ∧
      ({ closing with closeMode := some .discard } : Window).closeMode = some .discard ∧ win.state = .active ∧
      ((toClose win .discard [pend]).pendingList 3 ≠ [] ∧ (toClose win .commit []).pendingList 3 = [] ∧
        (toClose win .commit []).committedLines 3 = [] ∧ ∀ o ∈ (toClose win .commit []).outstanding, o.isDrainOf 3 = false) ∧
      ((after .closeWindow (toClose win .commit [])).pendingList 3 = [] ∧
        (after .closeWindow (toClose win .commit [])).committedLines 3 = [] ∧
        (after .closeWindow (toClose win .commit [comm])).committedLines 3 ≠ [] ∧ (toClose win .commit []).holdQueue = []) ∧
      (∀ x ∈ [(ready, HoldReason.frameReady), (tight, .exhausted)],
        (holding (toClose x.1 .commit [pend]) (write1 1 0x1040 7) x.2).portsAgree ∧
          (after .closeWindow (holding (toClose x.1 .commit [pend]) (write1 1 0x1040 7) x.2)).pendingList 3 ≠ []) ∧
      (holding (toClose ready .commit [pend]) (write1 1 0x1040 7) .frameReady).heldWrite
        (heldAt 0 (write1 1 0x1040 7) .frameReady (some 3)) 3 ∧
      (holding (toClose tight .commit [pend]) (write1 1 0x1040 7) .exhausted).heldWrite
        (heldAt 0 (write1 1 0x1040 7) .exhausted (some 3)) 3 :=
  ⟨fun _ _ _ => ⟨rfl, rfl, rfl, rfl⟩, by decide, by decide, by decide, by decide, by decide, by decide, by decide, by decide,
    by unfold State.portsAgree; decide, ⟨rfl, rfl, by decide, ⟨_, rfl⟩, by decide, by decide⟩,
    ⟨rfl, rfl, by decide, ⟨_, rfl⟩, by decide, by decide⟩⟩

/-- The argument's source is the one given. -/
def selecting (c : Source) : State :=
  { switching 16100 with port := { Port.reset with argument := { window := 0, mode := .commit, source := c } } }

/-- C itself; BEAT_B, DISABLED; BEAT_A, LOCKED and P already; SOFT. -/
theorem witness_SelectSourceFollowsTheTable :
    (∀ c, (selecting c).port.busy = false ∧ (selecting c).port.argument.source = c) ∧
      Source.internal = (selecting .internal).sel.current ∧
      (Source.beatB = BeatLine.b.source ∧ Source.beatB ≠ (selecting .beatB).sel.current ∧
        ((selecting .beatB).tracker .b).state = .disabled) ∧
      (Source.beatA ≠ (selecting .beatA).sel.current ∧
        ∀ tr ∈ [BeatLine.a, .b], Source.beatA = tr.source → ((selecting .beatA).tracker tr).state ≠ .disabled) ∧
      Source.soft ≠ (selecting .soft).sel.current ∧ ∀ tr ∈ [BeatLine.a, .b], Source.soft ≠ tr.source :=
  ⟨fun _ => ⟨rfl, rfl⟩, by decide⟩

/-- SOFT is neither; SOFT is C, 99 and 100 µs after the last beat with G = 100; SOFT is P; and no beat yet. -/
theorem witness_BeatNowOffersASoftCandidate :
    (State.reset.port.busy = false ∧ State.reset.sel.current ≠ .soft ∧ State.reset.sel.target ≠ some .soft) ∧
      ((onSoft 599).sel.current = .soft ∧ (onSoft 599).sel.lastDelivered = some 500 ∧ 599 < 500 + (onSoft 599).sel.gap.toNat) ∧
      500 + (onSoft 600).sel.gap.toNat ≤ 600 ∧
      (({ State.reset with sel := { Selector.reset with target := some .soft } } : State).sel.target = some .soft ∧
        State.reset.sel.lastDelivered = none) ∧ (onSoft 600).noFrame ∧ State.reset.noFrame := by
  unfold State.noFrame
  decide

/-- A held write and, behind it, a READY answer of the same initiator, with nothing outstanding. -/
def heldAlone : State :=
  { holding (withWin tight) (write1 1 0x1040 7) .exhausted with
    nextOrder := 2
    inflight := [flight 0 (write1 1 0x1040 7) (some 3) .held none, flight 1 (write1 1 0x1000 7) (some 3) (.ready .error) none] }

/-- The oldest request in flight of initiator 1 is HELD, and no other initiator has one. -/
theorem heldAlone_noAnswerWaits : heldAlone.noAnswerWaits := by
  have h : ∀ i : Initiator, ∀ e, heldAlone.inflight.find? (fun e => e.request.initiator == i) = some e → e.status = .held := by
    intro i
    fin_cases i <;> intro e he <;> revert he <;> simp [heldAlone, flight, write1]
    intro h
    rw [← h]
  intro i e he a ha
  rw [h i e he] at ha
  cases ha

/-- INIT with a read and a held request in flight; with a held request and nothing outstanding; with nothing left; an end still to be made, and
none to be made. -/
theorem witness_InitIsTakenAndEnds :
    (inOrder.port.busy = false ∧ inOrder.outstanding ≠ [] ∧ inOrder.holdQueue ≠ []) ∧
      ({ inOrder with pending := [answerA] } : State).portsAgree ∧
      (heldAlone.port.busy = false ∧ heldAlone.outstanding = [] ∧ heldAlone.waitList = [] ∧ heldAlone.holdQueue ≠ []) ∧
      heldAlone.portsAgree ∧ heldAlone.noAnswerWaits ∧
      ((withWin win).inflight = [] ∧ (withWin win).outstanding = [] ∧ (withWin win).port.busy = false ∧ (withWin win).holdQueue = []) ∧
      (({ withWin win with port := { Port.reset with busy := true } } : State).port.busy = true) ∧ duringInit.outstanding ≠ [] :=
  ⟨by decide, inOrder_portsAgree, by decide, by unfold State.portsAgree; decide, heldAlone_noAnswerWaits, by decide, by decide,
    by decide⟩

/-- The ends of the undefined codes: 0, and 6 to 255; 1 and 5 are defined. -/
theorem witness_CommandsThatAreNotTaken :
    duringInit.port.busy = true ∧ State.reset.port.busy = false ∧ undefinedCode 0 = true ∧ undefinedCode 6 = true ∧
      undefinedCode 255 = true ∧ undefinedCode 1 = false ∧ undefinedCode 5 = false := by decide

/-! ### Witnesses: register writes -/

/-- A window that is open; an OFF one, with codes 2 and 3 in each mode field. -/
theorem witness_DescriptorWrites :
    ((withWin win).window 3).state ≠ .off ∧ (State.reset.window 3).state = .off ∧
      (0x00300000 : Word).extractLsb' 20 2 = 3 ∧ (0x00200000 : Word).extractLsb' 20 2 ≠ 3 ∧
      (0x00060000 : Word).extractLsb' 17 2 = 3 ∧ (0x00040000 : Word).extractLsb' 17 2 ≠ 3 := by decide

/-- Each range at its ends, with G = 100 and a period of 1000: the hold limit 15, 16 and 65535; the gap 9, 10, 1000 and 1001; the period 99, 100,
1,000,000 and 1,000,001. -/
theorem witness_SettingWrites :
    (∀ n ∈ [9, 10, 15, 16, 1000, 1001, 65535], (BitVec.ofNat 32 n).toNat % 2 ^ 16 = n) ∧
      (∀ n ∈ [99, 100, 1000000, 1000001], (BitVec.ofNat 32 n).toNat % 2 ^ 20 = n) ∧
      (16 ≤ 16 ∧ ¬ 16 ≤ 15 ∧ 16 ≤ 65535) ∧
      (¬ 10 ≤ 9 ∧ 10 ≤ 10 ∧ 1000 ≤ State.reset.sel.period.toNat ∧ ¬ 1001 ≤ State.reset.sel.period.toNat) ∧
      (¬ 100 ≤ 99 ∧ State.reset.sel.gap.toNat ≤ 100 ∧ 100 ≤ 1000000 ∧ ¬ 1000001 ≤ 1000000) := by decide

/-- An empty queue, and one of two records. -/
theorem witness_FlagAndNotificationWrites :
    State.reset.notif.queue = [] ∧
      ({ Notifier.reset with queue := [record .commit 1, record .slip 2] } : Notifier).queue = record .commit 1 :: [record .slip 2] := by
  decide

/-- BEAT_A as P and as C, LOCKED; BEAT_B as neither, DISABLED; a configuration at each end of its ranges, and one below. -/
theorem witness_TrackerWrites :
    (switching 16100).sel.target = some BeatLine.a.source ∧ (onA 17000 trackA).sel.current = BeatLine.a.source ∧
      ¬ ((onA 17000 trackA).sel.current = BeatLine.b.source ∨ (onA 17000 trackA).sel.target = some BeatLine.b.source) ∧
      ((onA 17000 trackA).tracker .a).state ≠ .disabled ∧ ((onA 17000 trackA).tracker .b).state = .disabled ∧
      (∀ x ∈ [(0x01020001, 1, 2, 1), (0x070F0FFF, 4095, 15, 7), (0x01010001, 1, 1, 1), (0x00020001, 1, 2, 0), (0x01020000, 0, 2, 1)],
        (BitVec.ofNat 32 x.1).toNat % 2 ^ 12 = x.2.1 ∧ (BitVec.ofNat 32 x.1).toNat / 2 ^ 16 % 2 ^ 4 = x.2.2.1 ∧
          (BitVec.ofNat 32 x.1).toNat / 2 ^ 24 % 2 ^ 3 = x.2.2.2) := by decide

/-- The enable cleared; set with C internal, with C in lock, and with C in no lock. -/
theorem witness_FailoverEnableWrites :
    (0 : Word).getLsbD 0 = false ∧ (1 : Word).getLsbD 0 = true ∧
      (∀ tr ∈ [BeatLine.a, .b], State.reset.sel.current ≠ tr.source) ∧
      ((onA 17000 trackA).sel.current = BeatLine.a.source ∧ ((onA 17000 trackA).tracker .a).state = .locked) ∧
      ((onA 17000 Tracker.reset).sel.current = BeatLine.a.source ∧
        ¬ (((onA 17000 Tracker.reset).tracker .a).state = .locked ∨ ((onA 17000 Tracker.reset).tracker .a).state = .holdover) ∧
        (onA 17000 Tracker.reset).sel.lastDelivered = some 16900) := by decide

/-- R158: offsets that hold no register, at the ends of the areas; read-only registers. The records that reads show are lawful, with a
result, a pending target and a notification, and with none. -/
theorem witness_RegisterWrites :
    (regAt 0x018 = none ∧ regAt 0x11C = none ∧ regAt 0x500 = none ∧ regAt 0xFFF = none ∧ regAt 0x000 = some .identification ∧
        regAt 0x090 = some (.head 4) ∧ regAt 0x4F4 = some (.status 15 5) ∧ regAt 0x00B = some .holdLimit) ∧
      (switching 16700).sel.target = some .beatA ∧ (after .openWindow (opening 0)).port.result = some (.done, .openW) ∧
      State.reset.port.result = none ∧ (onA 17950 edgeOfRange).trackerA.lawful ∧ ((withWin dueWin).window 3).lawful ∧
      (withWin dueWin).reserveKept ∧ (fullQueue.lawful ∧ fullQueue.counted ∧ fullQueue.queue ≠ []) ∧
      (Notifier.reset.lawful ∧ Notifier.reset.counted ∧ Notifier.reset.queue = []) := by
  refine ⟨by decide, by decide, by decide, by decide, ?_, by unfold Window.lawful; decide, by unfold State.reserveKept; decide,
    by unfold Notifier.lawful Notifier.counted NotifRecord.sameKey; decide,
    by unfold Notifier.lawful Notifier.counted NotifRecord.sameKey; decide⟩
  refine ⟨by decide, by decide, by decide, by decide, by decide, by decide, fun p hp => ?_, by decide⟩
  cases hp
  decide

/-- Byte lane 0 enabled, with each value of the two flag bits; command codes 0 to 6; and the lane disabled. -/
theorem witness_RegisterWritesReachTheirOwners :
    (0xF : BitVec 4).getLsbD 0 = true ∧ (0xE : BitVec 4).getLsbD 0 = false ∧
      (∀ n ∈ [0, 1, 2, 3], (BitVec.ofNat 32 n).extractLsb' 0 2 = BitVec.ofNat 2 n) ∧
      (∀ n ∈ [0, 1, 2, 3, 4, 5, 6], (BitVec.ofNat 32 n).extractLsb' 0 8 = BitVec.ofNat 8 n) ∧ undefinedCode 0 = true ∧
      undefinedCode 6 = true := by decide

/-- A queue of `n + 1` records, the head of another kind than the rest. -/
def recordsOf (n : Nat) : Notifier :=
  { Notifier.reset with queue := record .commit 0 :: List.replicate n (record .slip 0) }

/-- A kind that is masked; a repeat of another record than the head; a repeat of the head alone, with 31 records and with 32. -/
theorem witness_EventsAreRecordedByTheRule :
    (({ recordsOf 1 with mask := 0 } : Notifier).mask.getLsbD (record .commit 0).kind.code = false) ∧
      (recordsOf 31).mask.getLsbD (record .commit 0).kind.code = true ∧
      ((recordsOf 1).queue = record .commit 0 :: ([] ++ record .slip 0 :: []) ∧ (record .slip 0).sameKey (record .slip 0)) ∧
      (∀ n, ∀ y ∈ (recordsOf n).queue.tail, ¬ (record .commit 0).sameKey y) ∧
      32 ≤ (recordsOf 31).queue.length ∧ (recordsOf 30).queue.length < 32 := by
  refine ⟨by decide, by decide, by unfold NotifRecord.sameKey; decide, fun n y hy h => ?_, by decide, by decide⟩
  rw [List.eq_of_mem_replicate hy] at h
  exact absurd h.1 (by decide)

end Sys2Proof.Tests
end

section
/-! SUPPORT. The time base: every command but a hardware reset leaves it as it was (R1). -/

namespace Sys2Proof.Machine

variable (s : State)

/-! ### Events, candidates and trackers -/

@[simp] theorem State.closeEvent_timeBase (d snt : Bool) (t : List Nat) :
    (s.closeEvent d snt t).timeBase = s.timeBase := (s.closeEvent_outside d snt t).1

@[simp] theorem State.offer_timeBase (c : Source) : (s.offer c).2.timeBase = s.timeBase := by
  rcases s.offer_cases c with ⟨e, -, -⟩ | ⟨e, -, -⟩ | ⟨-, -, -, e⟩ | ⟨-, -, -, -, e⟩ <;> rw [e] <;> simp

@[simp] theorem State.failover_timeBase (c : Source) : (s.failover c).timeBase = s.timeBase := rfl

@[simp] theorem State.miss_timeBase (t : BeatLine) : (s.miss t).timeBase = s.timeBase := by
  unfold State.miss
  dsimp only
  split
  · split <;> simp
  · simp

@[simp] theorem State.takeOverdue_timeBase (t : BeatLine) (k : Nat) :
    (State.takeOverdue t k s).timeBase = s.timeBase := by
  induction k generalizing s with
  | zero => rfl
  | succ k ih =>
    unfold State.takeOverdue
    split
    · rw [ih, State.miss_timeBase]
    · rfl

@[simp] theorem State.judgeEdge_timeBase (t : BeatLine) : (s.judgeEdge t).timeBase = s.timeBase := by
  unfold State.judgeEdge
  dsimp only
  split
  · rfl
  · split <;> simp

@[simp] theorem State.qualifyEdge_timeBase (t : BeatLine) : (s.qualifyEdge t).timeBase = s.timeBase := by
  unfold State.qualifyEdge
  dsimp only
  split <;> simp

@[simp] theorem State.beatEdge_timeBase (t : BeatLine) : (s.beatEdge t).timeBase = s.timeBase := by
  unfold State.beatEdge State.edge
  split <;> simp

@[simp] theorem State.internalTick_timeBase : s.internalTick.timeBase = s.timeBase := by
  simp [State.internalTick]

/-! ### The host-side port -/

@[simp] theorem classify_timeBase (n : Nat) (r : Request) (tw : Option WindowId) (x : Bool) :
    (classify s n r tw x).state.timeBase = s.timeBase := by rw [classify_frame s n r tw x]

@[simp] theorem State.judgeNew_timeBase (r : Request) : (s.judgeNew r).state.timeBase = s.timeBase := by
  unfold State.judgeNew
  split <;> simp

@[simp] theorem State.enter_timeBase (r : Request) (x : Steered) : (s.enter r x).timeBase = x.state.timeBase := by
  unfold State.enter
  dsimp only
  split <;> rfl

@[simp] theorem State.takeRequest_timeBase (r : Request) : (s.takeRequest r).timeBase = s.timeBase := by
  simp [State.takeRequest]

@[simp] theorem State.takePresented_timeBase : s.takePresented.timeBase = s.timeBase := by
  unfold State.takePresented
  split
  · split <;> simp
  · rfl

@[simp] theorem State.countTimeout_timeBase (w : Option WindowId) : (s.countTimeout w).timeBase = s.timeBase := by
  cases w <;> rfl

@[simp] theorem State.timeout_timeBase (h : Held) : (s.timeout h).timeBase = s.timeBase := by
  simp [State.timeout]

/-! ### The memory-side port -/

@[simp] theorem State.testInitEnd_timeBase : s.testInitEnd.timeBase = s.timeBase := by
  unfold State.testInitEnd
  split <;> rfl

@[simp] theorem State.keepCapture_timeBase (n : Nat) (a : MemAnswer) : (s.keepCapture n a).timeBase = s.timeBase := by
  cases a <;> rfl

@[simp] theorem State.hostCompletion_timeBase (n : Nat) (a : MemAnswer) :
    (s.hostCompletion n a).timeBase = s.timeBase := by
  unfold State.hostCompletion
  split <;> simp

@[simp] theorem State.testOff_timeBase (w : WindowId) : (s.testOff w).timeBase = s.timeBase := by
  unfold State.testOff
  split <;> rfl

@[simp] theorem State.drained_timeBase (w : WindowId) (l : Line) : (s.drained w l).timeBase = s.timeBase := by
  simp [State.drained]

@[simp] theorem State.dropEntry_timeBase (w : WindowId) (l : Line) : (s.dropEntry w l).timeBase = s.timeBase := by
  simp [State.dropEntry]

@[simp] theorem State.firstError_timeBase (w : WindowId) (l : Line) : (s.firstError w l).timeBase = s.timeBase := by
  unfold State.firstError
  dsimp only
  split <;> simp

@[simp] theorem State.drainCompletion_timeBase (l : Line) (a : DrainAnswer) :
    (s.drainCompletion l a).timeBase = s.timeBase := by
  unfold State.drainCompletion
  split
  · dsimp only
    split
    · simp
    · split
      · simp
      · simp
      · split <;> simp
  · rfl

/-! ### The command slot -/

@[simp] theorem State.openWindow_timeBase (w : WindowId) : (s.openWindow w).2.timeBase = s.timeBase := by
  unfold State.openWindow
  dsimp only
  split <;> rfl

@[simp] theorem State.closeTo_timeBase (w : WindowId) (m : CloseMode) : (s.closeTo w m).timeBase = s.timeBase := by
  cases m <;> simp [State.closeTo]

@[simp] theorem State.closeWindow_timeBase (w : WindowId) (m : CloseMode) :
    (s.closeWindow w m).2.timeBase = s.timeBase := by
  unfold State.closeWindow
  split
  case h_4 => dsimp only; split <;> simp
  all_goals simp

@[simp] theorem State.selectSource_timeBase (c : Source) : (s.selectSource c).2.timeBase = s.timeBase := by
  unfold State.selectSource
  split
  · rfl
  · split
    · split <;> rfl
    · rfl

@[simp] theorem State.beatNow_timeBase : s.beatNow.2.timeBase = s.timeBase := by
  have h := s.offer_timeBase .soft
  unfold State.beatNow
  split
  · split <;> simp_all
  · rfl

@[simp] theorem State.answerHeld_timeBase : s.answerHeld.timeBase = s.timeBase := by
  have keeps : ∀ (l : List Held) (t : State),
      (l.foldl (fun t h => t.determine h.order h.request.initiator .error) t).timeBase = t.timeBase := by
    intro l
    induction l with
    | nil => exact fun _ => rfl
    | cons h l ih => exact fun t => ih _
  exact keeps _ _

@[simp] theorem State.takeCommand_timeBase (c : CommandName) : (s.takeCommand c).timeBase = s.timeBase := by
  cases c <;> simp [State.takeCommand, complete, State.takeInit]

@[simp] theorem State.command_timeBase (c : CommandName) : (s.command c).timeBase = s.timeBase := by
  unfold State.command
  split <;> simp

@[simp] theorem State.commandWrite_timeBase (code : BitVec 8) : (s.commandWrite code).timeBase = s.timeBase := by
  unfold State.commandWrite
  split
  · simp
  · split <;> simp

/-! ### The register window -/

@[simp] theorem State.writeFailover_timeBase (v : Word) : (s.writeFailover v).timeBase = s.timeBase := by
  unfold State.writeFailover
  dsimp only
  split <;> rfl

@[simp] theorem State.writeHoldLimit_timeBase (v : Word) : (s.writeHoldLimit v).timeBase = s.timeBase := by
  unfold State.writeHoldLimit
  split <;> rfl

@[simp] theorem State.writeGap_timeBase (v : Word) : (s.writeGap v).timeBase = s.timeBase := by
  unfold State.writeGap
  split <;> rfl

@[simp] theorem State.writePeriod_timeBase (v : Word) : (s.writePeriod v).timeBase = s.timeBase := by
  unfold State.writePeriod
  split <;> rfl

@[simp] theorem State.writeTrackerConfig_timeBase (t : BeatLine) (v : Word) :
    (s.writeTrackerConfig t v).timeBase = s.timeBase := by
  unfold State.writeTrackerConfig
  split
  · rfl
  · split <;> simp

@[simp] theorem State.enableTracker_timeBase (t : BeatLine) : (s.enableTracker t).timeBase = s.timeBase := by
  unfold State.enableTracker
  split <;> simp

@[simp] theorem State.disableTracker_timeBase (t : BeatLine) : (s.disableTracker t).timeBase = s.timeBase := by
  unfold State.disableTracker
  split
  · rfl
  · split <;> simp

@[simp] theorem State.writeTrackerEnable_timeBase (t : BeatLine) (v : Word) :
    (s.writeTrackerEnable t v).timeBase = s.timeBase := by
  unfold State.writeTrackerEnable
  split <;> simp

@[simp] theorem State.writeFlags_timeBase (v : Word) : (s.writeFlags v).timeBase = s.timeBase := by
  unfold State.writeFlags
  dsimp only
  split <;> split <;> rfl

@[simp] theorem State.writeDescriptor_timeBase (w : WindowId) (i : Fin 6) (v : Word) :
    (s.writeDescriptor w i v).timeBase = s.timeBase := by
  unfold State.writeDescriptor
  split
  · split <;> rfl
  · rfl

@[simp] theorem State.clearIgnored_timeBase : s.clearIgnored.timeBase = s.timeBase := rfl
@[simp] theorem State.clearRefused_timeBase : s.clearRefused.timeBase = s.timeBase := rfl
@[simp] theorem State.writeArgument_timeBase (v : Word) : (s.writeArgument v).timeBase = s.timeBase := rfl
@[simp] theorem State.writeMask_timeBase (v : Word) : (s.writeMask v).timeBase = s.timeBase := rfl
@[simp] theorem State.writeIntEnable_timeBase (v : Word) : (s.writeIntEnable v).timeBase = s.timeBase := rfl
@[simp] theorem State.popHead_timeBase : s.popHead.timeBase = s.timeBase := rfl
@[simp] theorem State.clearOverflow_timeBase : s.clearOverflow.timeBase = s.timeBase := rfl

/-- A write of any register leaves the time base as it was. -/
@[simp] theorem State.writeReg_timeBase (g : Reg) (v : Word) : (s.writeReg g v).timeBase = s.timeBase := by
  cases g <;> simp [State.writeReg]

@[simp] theorem State.busWrite_timeBase (o : BitVec 12) (d : BusWrite) : (s.busWrite o d).timeBase = s.timeBase := by
  unfold State.busWrite
  split <;> simp

/-! ### Every command -/

/-- Every command completes; a hardware reset sets the time to 0, and no other command changes it (R1). -/
theorem exec_timeBase (c : Instr) :
    ∃ t, exec c s = .next t ∧ t.timeBase = if c = .hardwareReset then 0 else s.timeBase := by
  cases c with
  | hardwareReset => exact ⟨_, rfl, rfl⟩
  | holdTimeout n => exact ⟨_, rfl, by split <;> simp⟩
  | trackerMiss t => exact ⟨_, rfl, by split <;> simp⟩
  | internalCandidate => exact ⟨_, rfl, by split <;> simp⟩
  | _ => exact ⟨_, rfl, by simp⟩

end Sys2Proof.Machine
end

section
/-! SUPPORT. The host-side bus: to take a request changes nothing of what waits behind it, and does not depend on it (R45). -/

namespace Sys2Proof.Machine

/-- `s` with the requests `b` on the host-side bus. -/
def State.onBus (s : State) (b : List Request) : State := { s with hostBus := b }

/-- A classification whose state has the requests `b` on the host-side bus. -/
def Steered.onBus (x : Steered) (b : List Request) : Steered := { x with state := x.state.onBus b }

/-- A re-examination whose state has the requests `b` on the host-side bus. -/
def Pass.onBus (p : Pass) (b : List Request) : Pass := { p with state := p.state.onBus b }

variable (s : State) (b : List Request)

/-! ### Steering -/

/-- To put requests on the bus commutes with a choice between classifications. -/
theorem Steered.onBus_ite (c : Prop) [Decidable c] (x y : Steered) :
    (if c then x else y).onBus b = if c then x.onBus b else y.onBus b := apply_ite (·.onBus b) c x y

/-- To put requests on the bus commutes with a choice between states. -/
theorem State.onBus_ite (c : Prop) [Decidable c] (x y : State) :
    (if c then x else y).onBus b = if c then x.onBus b else y.onBus b := apply_ite (·.onBus b) c x y

@[simp] theorem State.onBus_window (w : WindowId) : (s.onBus b).window w = s.window w := rfl
@[simp] theorem State.onBus_windowOf (l : Line) : (s.onBus b).windowOf l = s.windowOf l := rfl
@[simp] theorem State.onBus_allocOk (w : WindowId) : (s.onBus b).allocOk w = s.allocOk w := rfl
@[simp] theorem State.onBus_pendingEntry (w : WindowId) (l : Line) :
    (s.onBus b).pendingEntry w l = s.pendingEntry w l := rfl
@[simp] theorem State.onBus_committedEntry (w : WindowId) (l : Line) :
    (s.onBus b).committedEntry w l = s.committedEntry w l := rfl
@[simp] theorem State.onBus_capture (w : WindowId) (r : Request) : (s.onBus b).capture w r = s.capture w r := rfl
@[simp] theorem State.onBus_olderHeld (i : Initiator) (n : Nat) : (s.onBus b).olderHeld i n = s.olderHeld i n := rfl
@[simp] theorem State.onBus_notify (k : NotifKind) (u : Subject) (l : Option Line) (i : Option Initiator) :
    (s.onBus b).notify k u l i = (s.notify k u l i).onBus b := rfl
@[simp] theorem State.onBus_updWindow (w : WindowId) (f : Window → Window) :
    (s.onBus b).updWindow w f = (s.updWindow w f).onBus b := rfl
@[simp] theorem State.onBus_allocate (w : WindowId) (l : Line) :
    (s.onBus b).allocate w l = (s.allocate w l).onBus b := rfl
@[simp] theorem State.onBus_merge (w : WindowId) (r : Request) : (s.onBus b).merge w r = (s.merge w r).onBus b := rfl

theorem stagedDone_onBus (w : WindowId) (m a x : Bool) :
    stagedDone (s.onBus b) w m a x = (stagedDone s w m a x).onBus b := rfl

theorem bypassWrite_onBus (w : WindowId) (r : Request) (m : Bool) :
    bypassWrite (s.onBus b) w r m = (bypassWrite s w r m).onBus b := by
  cases h : (s.window w).torn <;> simp only [bypassWrite, State.onBus_window, h] <;> rfl

theorem exhaust_onBus (w : WindowId) (r : Request) (m x : Bool) :
    exhaust (s.onBus b) w r m x = (exhaust s w r m x).onBus b := by
  unfold exhaust
  simp only [State.onBus_window, State.onBus_updWindow, State.onBus_notify, State.onBus_committedEntry,
    ← State.onBus_ite, bypassWrite_onBus]
  split
  · rfl
  · rfl
  · split <;> rfl

theorem stageWrite_onBus (w : WindowId) (r : Request) (m x : Bool) :
    stageWrite (s.onBus b) w r m x = (stageWrite s w r m x).onBus b := by
  simp only [stageWrite, State.onBus_pendingEntry, State.onBus_allocOk, State.onBus_allocate, State.onBus_merge,
    stagedDone_onBus, exhaust_onBus, Steered.onBus_ite]

theorem tallyWrite_onBus (w : WindowId) (r : Request) (x : Bool) :
    tallyWrite (s.onBus b) w r x = (tallyWrite s w r x).onBus b := by
  simp only [tallyWrite, State.onBus_window, stageWrite_onBus]
  split
  · simp only [Steered.onBus_ite]; rfl
  · rfl
  · rfl

theorem steerWrite_onBus (w : WindowId) (r : Request) (x : Bool) :
    steerWrite (s.onBus b) w r x = (steerWrite s w r x).onBus b := by
  simp only [steerWrite, State.onBus_window, tallyWrite_onBus, stageWrite_onBus]
  split
  · rfl
  · split
    · rfl
    · rfl
    · rfl
    · simp only [Steered.onBus_ite]; rfl

theorem steerInWindow_onBus (w : WindowId) (r : Request) (x : Bool) :
    steerInWindow (s.onBus b) w r x = (steerInWindow s w r x).onBus b := by
  unfold steerInWindow
  split
  · rfl
  · simp only [steerRead, State.onBus_capture, Steered.onBus_ite]; rfl
  · exact steerWrite_onBus s b w r x

/-- No classification reads or changes the bus (R49 to R65). -/
theorem classify_onBus (n : Nat) (r : Request) (tw : Option WindowId) (x : Bool) :
    classify (s.onBus b) n r tw x = (classify s n r tw x).onBus b := by
  simp only [classify, State.onBus_olderHeld, State.onBus_windowOf, steerInWindow_onBus]
  split
  · rfl
  · split <;> rfl

/-! ### The close of an event -/

theorem release_onBus (h : Held) (x : Steered) : release h (x.onBus b) = (release h x).onBus b := by
  obtain ⟨t, v, m, k⟩ := x
  cases v <;> rfl

@[simp] theorem State.onBus_holdQueue : (s.onBus b).holdQueue = s.holdQueue := rfl
@[simp] theorem State.onBus_inflightAt (n : Nat) : (s.onBus b).inflightAt n = s.inflightAt n := rfl
@[simp] theorem State.onBus_inForce (h : Held) : (s.onBus b).inForce h = s.inForce h := rfl
@[simp] theorem Steered.onBus_wakes (x : Steered) : (x.onBus b).wakes (s.onBus b) = x.wakes s := rfl
@[simp] theorem State.onBus_orderBehind (i : Initiator) (n : Nat) :
    (s.onBus b).orderBehind i n = s.orderBehind i n := rfl

theorem Pass.reach_onBus (p : Pass) (n : Nat) : (p.onBus b).reach n = (p.reach n).onBus b := by
  unfold Pass.reach
  simp only [Pass.onBus, State.onBus_holdQueue, State.onBus_inflightAt, State.onBus_inForce, classify_onBus,
    release_onBus, Steered.onBus_wakes, State.onBus_orderBehind]
  split
  · split
    · rfl
    · split <;> rfl
  · rfl

theorem Pass.run_onBus (p : Pass) : (p.onBus b).run = p.run.onBus b := by
  show ((p.state.holdQueue.map (·.order)).foldl Pass.reach (p.onBus b)) = _
  unfold Pass.run
  induction p.state.holdQueue.map (·.order) generalizing p with
  | nil => rfl
  | cons n l ih => rw [List.foldl_cons, Pass.reach_onBus, ih, List.foldl_cons]

theorem Pass.runAll_onBus (k : Nat) (p : Pass) : Pass.runAll k (p.onBus b) = (Pass.runAll k p).onBus b := by
  induction k generalizing p with
  | zero => rfl
  | succ k ih =>
    simp only [Pass.runAll, Pass.run_onBus]
    by_cases h : p.run.again.isEmpty
    · simp [Pass.onBus, h]
    · simpa [Pass.onBus, h] using ih { p.run with trig := p.run.again, again := [] }

theorem State.reexamine_onBus (t : List Nat) : (s.onBus b).reexamine t = (s.reexamine t).onBus b :=
  Pass.runAll_onBus b _ ⟨s, t, [], false⟩

@[simp] theorem State.issueHost_onBus : (s.onBus b).issueHost = s.issueHost.onBus b := rfl

@[simp] theorem State.drainIssue_onBus : (s.onBus b).drainIssue = s.drainIssue.onBus b := by
  cases h : s.port.busy <;> simp only [State.drainIssue, State.onBus, h] <;> rfl

/-- The close of an event neither reads nor changes the bus. -/
theorem State.closeEvent_onBus (d snt : Bool) (t : List Nat) :
    (s.onBus b).closeEvent d snt t = (s.closeEvent d snt t).onBus b := by
  simp only [State.closeEvent, State.reexamine_onBus, Pass.onBus, State.issueHost_onBus]
  split <;> split <;> simp

/-! ### The take of a request -/

theorem State.judgeNew_onBus (r : Request) : (s.onBus b).judgeNew r = (s.judgeNew r).onBus b := by
  unfold State.judgeNew
  split
  · rfl
  · exact classify_onBus s b s.nextOrder r (s.takeWindow r) false

theorem State.enter_onBus (r : Request) (x : Steered) : (s.onBus b).enter r (x.onBus b) = (s.enter r x).onBus b := by
  obtain ⟨t, v, m, k⟩ := x
  cases v <;> rfl

/-- What the take of a request does, it does whatever waits on the bus, and leaves that as it is (R45 to R49). -/
theorem State.takeRequest_onBus (r : Request) : (s.onBus b).takeRequest r = (s.takeRequest r).onBus b := by
  simp only [State.takeRequest, State.judgeNew_onBus, State.enter_onBus, Steered.onBus_wakes, State.closeEvent_onBus]
  rfl

end Sys2Proof.Machine
end

section
/-! The queue, time and reset: what a step on an empty queue takes (R1, R45, R80, R134, R143), and what a hardware reset leaves. -/

namespace Sys2Proof.Machine

/-! ### What a step on an empty queue takes -/

section Idle

variable {s : State}

theorem step_front {c : Instr} {rest : List Instr} (h : s.pending = c :: rest) :
    step s = exec c { s with pending := rest } := by
  unfold step
  rw [h]

theorem step_idle (h : s.pending = []) : step s = .next s.idle := by
  unfold step
  rw [h]

/-- The miss of tracker A comes first (R134). -/
theorem State.idle_missA (h : (s.tracker .a).missDue s.timeBase = true) : s.idle = s.miss .a := if_pos h

/-- The miss of tracker B comes next (R134). -/
theorem State.idle_missB (ha : (s.tracker .a).missDue s.timeBase = false)
    (hb : (s.tracker .b).missDue s.timeBase = true) : s.idle = s.miss .b :=
  (if_neg (ne_true_of_eq_false ha)).trans (if_pos hb)

/-- With no miss due, the oldest timeout due, else the candidate, else what the bus presents, else the time (R1, R45, R80, R143). -/
theorem State.idle_noMiss (h : ∀ tr, (s.tracker tr).missDue s.timeBase = false) :
    s.idle =
      match s.dueTimeout with
      | some h => s.timeout h
      | none =>
        if s.internalDue then s.internalTick else if s.canTake && !s.hostBus.isEmpty then s.takePresented else s.tick :=
  (if_neg (ne_true_of_eq_false (h .a))).trans (if_neg (ne_true_of_eq_false (h .b)))

theorem State.dueTimeout_none_iff : s.dueTimeout = none ↔ ∀ h ∈ s.holdQueue, s.timeBase < h.deadline := by
  simp [State.dueTimeout]

theorem State.internalDue_iff : s.internalDue = true ↔ s.sel.nextTime ≤ s.timeBase := by simp [State.internalDue]

/-- The oldest held request at its deadline is the one whose timeout is due (R80). -/
theorem State.dueTimeout_oldest {h : Held} {pre post : List Held} (hq : s.holdQueue = pre ++ h :: post)
    (hpre : ∀ g ∈ pre, s.timeBase < g.deadline) (hd : h.deadline ≤ s.timeBase) : s.dueTimeout = some h := by
  unfold State.dueTimeout
  rw [hq, List.find?_append, List.find?_eq_none.mpr (by simpa using hpre)]
  simp [hd]

/-- A HOLD_TIMEOUT at its place finds it (R80). -/
theorem State.timedOut_oldest {h : Held} {pre post : List Held} (hq : s.holdQueue = pre ++ h :: post)
    (hpre : ∀ g ∈ pre, s.timeBase < g.deadline) (hd : h.deadline ≤ s.timeBase) : s.timedOut h.order = some h := by
  have none_of_pre : pre.find? (fun g => g.order == h.order && decide (g.deadline ≤ s.timeBase)) = none :=
    List.find?_eq_none.mpr fun g hg => by simp [hpre g hg]
  unfold State.timedOut
  rw [hq, List.find?_append, none_of_pre]
  simp [hd]

/-- The take conditions, in the terms of R45. -/
theorem State.takesNext_iff_canTake : ({ s with hostBus := [] } : State).takesNext ↔ s.canTake = true := by
  unfold State.takesNext State.canTake
  simp only [Bool.and_eq_true, decide_eq_true_eq, Bool.not_eq_true', and_assoc, true_and]
  rfl

theorem State.nothingToTake_iff : s.nothingToTake ↔ (s.canTake && !s.hostBus.isEmpty) = false := by
  unfold State.nothingToTake
  rw [State.takesNext_iff_canTake]
  cases s.canTake <;> simp

/-- With nothing due, what the bus presents is taken, else one microsecond passes (R1, R45). -/
theorem State.idle_nothingDue (h : s.nothingDue) :
    s.idle = if s.canTake && !s.hostBus.isEmpty then s.takePresented else s.tick := by
  obtain ⟨hmiss, hheld, hnext⟩ := h
  rw [State.idle_noMiss hmiss, State.dueTimeout_none_iff.mpr hheld]
  exact if_neg (by rw [State.internalDue_iff]; exact Nat.not_le.mpr hnext)

/-- The port takes the request that has waited longest (R45). -/
theorem State.takePresented_cons {r : Request} {rest : List Request} (hc : s.canTake = true) (hb : s.hostBus = r :: rest) :
    s.takePresented = (s.onBus rest).takeRequest r := by
  unfold State.takePresented
  rw [if_pos hc, hb]
  rfl

/-- A step on an empty queue leaves the time, unless nothing is due and nothing is to be taken (R1). -/
theorem State.idle_timeBase :
    s.idle.timeBase = s.timeBase ∨ (s.nothingDue ∧ s.nothingToTake ∧ s.idle = { s with timeBase := s.timeBase + 1 }) := by
  by_cases ha : (s.tracker .a).missDue s.timeBase = true
  · exact .inl (by rw [State.idle_missA ha, State.miss_timeBase])
  by_cases hb : (s.tracker .b).missDue s.timeBase = true
  · exact .inl (by rw [State.idle_missB (by simpa using ha) hb, State.miss_timeBase])
  have hmiss : ∀ tr, (s.tracker tr).missDue s.timeBase = false := fun tr => by
    cases tr
    · simpa using ha
    · simpa using hb
  cases hdue : s.dueTimeout with
  | some h => exact .inl (by rw [State.idle_noMiss hmiss, hdue]; exact State.timeout_timeBase s h)
  | none =>
    by_cases hint : s.internalDue = true
    · exact .inl (by rw [State.idle_noMiss hmiss, hdue]; simp [hint])
    have hnone : s.nothingDue :=
      ⟨hmiss, State.dueTimeout_none_iff.mp hdue, by rw [State.internalDue_iff] at hint; exact Nat.not_le.mp hint⟩
    rw [State.idle_nothingDue hnone]
    split
    · exact .inl (State.takePresented_timeBase s)
    · next hn => exact .inr ⟨hnone, State.nothingToTake_iff.mpr (by simpa using hn), rfl⟩

end Idle

/-! ### The commands for what is due -/

section Commands

variable {s : State}

theorem exec_trackerMiss_due {t : BeatLine} (h : (s.tracker t).missDue s.timeBase = true) :
    exec (.trackerMiss t) s = .next (s.miss t) := congrArg Host.Outcome.next (if_pos h)

theorem exec_internalCandidate_due (h : s.sel.nextTime ≤ s.timeBase) :
    exec .internalCandidate s = .next s.internalTick := congrArg Host.Outcome.next (if_pos (State.internalDue_iff.mpr h))

theorem exec_holdTimeout_timedOut {n : Nat} {h : Held} (ht : s.timedOut n = some h) :
    exec (.holdTimeout n) s = .next (s.timeout h) := by
  show Host.Outcome.next (match s.timedOut n with | some h => s.timeout h | none => s) = _
  rw [ht]

/-- A request that comes to an empty bus is taken at once, once the take conditions hold (R45). -/
theorem exec_hostSideRequest_takes {r : Request} (hc : s.canTake = true) :
    exec (.hostSideRequest r) (s.onBus []) = .next ((s.takeRequest r).onBus []) := by
  rw [← State.takeRequest_onBus]
  exact congrArg Host.Outcome.next (State.takePresented_cons (s := s.onBus [r]) hc rfl)

theorem exec_hardwareReset : exec .hardwareReset s = .next { State.reset with pending := s.pending } := rfl

end Commands

/-- Settles O2: the time by the law of each command (`exec_timeBase`) and of the empty queue (`State.idle_timeBase`), and what a step
on an empty queue takes by the case that comes first. -/
theorem timePassesOnlyWhenNothingIsDue : Obligations.TimePassesOnlyWhenNothingIsDue := by
  refine ⟨fun s t hst => ?_, fun s hp => ?_⟩
  · by_cases hq : s.pending = []
    · rw [step_idle hq] at hst
      obtain rfl : s.idle = t := Host.Outcome.next.inj hst
      refine ⟨fun rest h => by simp [hq] at h, fun _ => ?_⟩
      exact State.idle_timeBase.imp_right fun idle_ticks => ⟨hq, idle_ticks⟩
    · obtain ⟨c, rest, hq⟩ := List.exists_cons_of_ne_nil hq
      obtain ⟨u, hu, htime⟩ := exec_timeBase { s with pending := rest } c
      rw [step_front hq, hu] at hst
      obtain rfl : u = t := Host.Outcome.next.inj hst
      refine ⟨fun rest' h => ?_, fun h => .inl ?_⟩
      · obtain ⟨rfl, -⟩ := List.cons.inj (hq.symm.trans h)
        exact htime
      · have hc : c ≠ .hardwareReset := fun e => h rest (by rw [hq, e])
        rwa [if_neg hc] at htime
  · rw [step_idle hp]
    refine ⟨fun ha => ?_, fun ha hb => ?_, fun hmiss => ⟨fun h pre post hq hpre hd => ?_, fun hheld hnext => ?_⟩,
      fun hdue => ⟨fun r rest hb htake => ?_, fun htake => ?_⟩⟩
    · rw [State.idle_missA ha, exec_trackerMiss_due ha]
    · rw [State.idle_missB ha hb, exec_trackerMiss_due hb]
    · rw [State.idle_noMiss hmiss, State.dueTimeout_oldest hq hpre hd,
        exec_holdTimeout_timedOut (State.timedOut_oldest hq hpre hd)]
    · rw [State.idle_noMiss hmiss, State.dueTimeout_none_iff.mpr hheld, exec_internalCandidate_due hnext]
      exact congrArg Host.Outcome.next (if_pos (State.internalDue_iff.mpr hnext))
    · have hc : s.canTake = true := State.takesNext_iff_canTake.mp htake
      refine ⟨_, exec_hostSideRequest_takes hc, ?_⟩
      rw [State.idle_nothingDue hdue, if_pos (by simp [hc, hb]), State.takePresented_cons hc hb, State.takeRequest_onBus]
      rfl
    · rw [State.idle_nothingDue hdue, if_neg (by simp [State.nothingToTake_iff.mp htake])]
      rfl

/-! ### Reset -/

/-- After a reset every window is OFF at its reset values (R4, R19). -/
theorem State.reset_window (w : WindowId) : State.reset.window w = Window.cleared Descriptor.reset :=
  Vector.getElem_replicate w.isLt

theorem State.reset_tracker (tr : BeatLine) : State.reset.tracker tr = Tracker.reset := by cases tr <;> rfl

theorem State.reset_argument : State.reset.readReg .argument = 0 := by decide

/-- Settles O3: the state after a HARDWARE_RESET is the reset state with the queue of commands kept, block by block. -/
theorem hardwareResetGivesResetValues : Obligations.HardwareResetGivesResetValues := fun s =>
  ⟨{ State.reset with pending := s.pending }, exec_hardwareReset, rfl, State.reset_window, rfl, rfl, rfl, rfl, rfl, rfl, rfl, rfl,
    State.reset_tracker, rfl, rfl, rfl, rfl, rfl, State.reset_argument, rfl, rfl, rfl⟩

end Sys2Proof.Machine
end

section
/-! SUPPORT. What a step can do: one case for each kind of happening, so that a law of every step is proved happening by happening. -/

namespace Sys2Proof.Machine

/-- From `s` to `t` at most the time base, the settings, the trackers, the selector, the port's flags, the notifications, the bus and the
queue of commands change: nothing that holds a request, a window or an entry. -/
def State.sameStore (s t : State) : Prop :=
  t = { s with
    timeBase := t.timeBase, holdLimit := t.holdLimit, trackerA := t.trackerA, trackerB := t.trackerB, sel := t.sel
    port := { t.port with busy := s.port.busy }, notif := t.notif, hostBus := t.hostBus, pending := t.pending }

/-- The time, the beat number, the time of the last delivered beat and the minimum gap are the same. -/
def State.sameBeat (s t : State) : Prop :=
  t.timeBase = s.timeBase ∧ t.sel.beatNumber = s.sel.beatNumber ∧ t.sel.lastDelivered = s.sel.lastDelivered ∧
    t.sel.gap = s.sel.gap

/-- What the trackers, the generator and BEAT_NOW can do: candidates, and between them changes that no window meets. -/
inductive State.Beats (s : State) : State → Prop
  | refl : s.Beats s
  | beside {t u : State} : s.Beats t → t.sameStore u → t.sameBeat u → s.Beats u
  | offer {t : State} (c : Source) : s.Beats t → s.Beats (t.offer c).2

/-- What a step other than a hardware reset can do. -/
inductive State.Happens (s : State) : State → Prop
  | aside {t : State} : s.sameStore t → s.Happens t
  | beats {t : State} : s.Beats t → s.Happens t
  | descriptor (w : WindowId) (d : Descriptor) : (s.window w).state = .off →
      s.Happens (s.updWindow w fun u => { u with desc := d })
  | opened (w : WindowId) : s.port.busy = false → s.port.argument.window = w → s.openResult w = .done →
      s.Happens (complete .openW (.done, s.updWindow w Window.opened))
  | closed (w : WindowId) (m : CloseMode) : s.port.busy = false → (s.window w).state ≠ .off →
      s.Happens (complete .closeW (.done, s.closeTo w m))
  | taken {u : State} (r : Request) : s.sameStore u → s.port.busy = false → s.Happens (u.takeRequest r)
  | timeout (h : Held) : h ∈ s.holdQueue → s.Happens (s.timeout h)
  | hostAnswer (n : Nat) (a : MemAnswer) : s.Happens (s.hostCompletion n a)
  | drainAnswer (l : Line) (a : DrainAnswer) : s.Happens (s.drainCompletion l a)
  | init : s.port.busy = false → s.Happens s.takeInit
  | initEnd : s.Happens s.testInitEnd

variable {s : State}

/-- The parts that stay, one by one. -/
theorem State.sameStore_iff {t : State} :
    s.sameStore t ↔
      t.windows = s.windows ∧ t.pool = s.pool ∧ t.inflight = s.inflight ∧ t.nextOrder = s.nextOrder ∧
        t.holdQueue = s.holdQueue ∧ t.drainQueue = s.drainQueue ∧ t.waitList = s.waitList ∧
        t.outstanding = s.outstanding ∧ t.answers = s.answers ∧ t.issued = s.issued ∧ t.port.busy = s.port.busy := by
  constructor
  · intro h
    unfold State.sameStore at h
    rw [h]
    exact ⟨rfl, rfl, rfl, rfl, rfl, rfl, rfl, rfl, rfl, rfl, rfl⟩
  · obtain ⟨⟩ := t
    rintro ⟨h1, h2, h3, h4, h5, h6, h7, h8, h9, h10, h11⟩
    dsimp only at h1 h2 h3 h4 h5 h6 h7 h8 h9 h10 h11
    subst h1 h2 h3 h4 h5 h6 h7 h8 h9 h10
    unfold State.sameStore
    rw [← h11]

theorem State.sameStore.trans {t u : State} (h : s.sameStore t) (h' : t.sameStore u) : s.sameStore u := by
  rw [State.sameStore_iff] at *
  obtain ⟨a1, a2, a3, a4, a5, a6, a7, a8, a9, a10, a11⟩ := h
  obtain ⟨b1, b2, b3, b4, b5, b6, b7, b8, b9, b10, b11⟩ := h'
  exact ⟨b1.trans a1, b2.trans a2, b3.trans a3, b4.trans a4, b5.trans a5, b6.trans a6, b7.trans a7, b8.trans a8,
    b9.trans a9, b10.trans a10, b11.trans a11⟩

theorem State.Happens.refl (s : State) : s.Happens s := .aside rfl

theorem State.Beats.notify {t : State} (h : s.Beats t) (k : NotifKind) (u : Subject) (l : Option Line) (i : Option Initiator) :
    s.Beats (t.notify k u l i) := h.beside rfl ⟨rfl, rfl, rfl, rfl⟩

theorem State.Beats.setTracker {t : State} (h : s.Beats t) (tr : BeatLine) (v : Tracker) : s.Beats (t.setTracker tr v) := by
  cases tr <;> exact h.beside rfl ⟨rfl, rfl, rfl, rfl⟩

/-- A failover moves C, P and the next time alone, and is recorded (R150). -/
theorem State.Beats.failover {t : State} (h : s.Beats t) (c : Source) : s.Beats (t.failover c) :=
  h.beside rfl ⟨rfl, rfl, rfl, rfl⟩

theorem State.Beats.miss {t : State} (h : s.Beats t) (tr : BeatLine) : s.Beats (t.miss tr) := by
  unfold State.miss
  dsimp only
  split
  · split
    · exact ((h.setTracker _ _).notify _ _ _ _).failover _
    · exact (h.setTracker _ _).notify _ _ _ _
  · exact (h.setTracker _ _).offer _

theorem State.Beats.takeOverdue (tr : BeatLine) (k : Nat) {t : State} (h : s.Beats t) :
    s.Beats (State.takeOverdue tr k t) := by
  induction k generalizing t with
  | zero => exact h
  | succ k ih =>
    unfold State.takeOverdue
    split
    · exact ih (h.miss tr)
    · exact h

theorem State.Beats.edge {t : State} (h : s.Beats t) (tr : BeatLine) : s.Beats (t.edge tr) := by
  unfold State.edge
  split
  · exact h
  · exact h.setTracker _ _
  · unfold State.qualifyEdge
    dsimp only
    split
    · exact (h.setTracker _ _).notify _ _ _ _
    · exact h.setTracker _ _
  all_goals
    unfold State.judgeEdge
    dsimp only
    split
    · exact h
    · split
      · exact h.setTracker _ _
      · exact (h.setTracker _ _).offer _

theorem State.Beats.internalTick {t : State} (h : s.Beats t) : s.Beats t.internalTick :=
  (h.beside (u := { t with sel := { t.sel with nextTime := t.timeBase + t.sel.period.toNat } }) rfl
    ⟨rfl, rfl, rfl, rfl⟩).offer .internal

theorem State.Beats.beatNow {t : State} (h : s.Beats t) : s.Beats (complete .beatNow t.beatNow) := by
  have done : ∀ (c : ResultCode) {u : State}, s.Beats u → s.Beats (complete .beatNow (c, u)) :=
    fun c u hu => hu.beside rfl ⟨rfl, rfl, rfl, rfl⟩
  unfold State.beatNow
  split
  · have ho := h.offer .soft
    split
    · next e => rw [e] at ho; exact done _ ho
    · next e => rw [e] at ho; exact done _ ho
  · exact done _ h

/-- A command of the slot: refused, or taken (R163). -/
theorem State.command_happens (s : State) (c : CommandName) : s.Happens (s.command c) := by
  unfold State.command
  split
  · exact .aside rfl
  · next hb =>
    have hb : s.port.busy = false := by simpa using hb
    cases c
    case openW =>
      show s.Happens (complete .openW (s.openWindow _))
      unfold State.openWindow
      split
      · next hd => rw [hd]; exact .opened _ hb rfl hd
      · exact .aside rfl
    case closeW =>
      show s.Happens (complete .closeW (s.closeWindow _ _))
      generalize s.port.argument.window = w
      unfold State.closeWindow
      split
      · exact .aside rfl
      · next hs => exact .closed w _ hb (by simp [hs])
      · exact .aside rfl
      · next hs _ =>
        split
        · exact .aside rfl
        · exact .closed w _ hb (by simp [hs])
      · exact .aside rfl
      · next hs _ => exact .closed w _ hb (by simp [hs])
    case selectSource =>
      show s.Happens (complete .selectSource (s.selectSource _))
      unfold State.selectSource
      split
      · exact .aside rfl
      · split
        · split <;> exact .aside rfl
        · exact .aside rfl
    case beatNow => exact .beats (State.Beats.refl.beatNow)
    case init => exact .init hb

theorem State.commandWrite_happens (s : State) (code : BitVec 8) : s.Happens (s.commandWrite code) := by
  unfold State.commandWrite
  split
  · exact s.command_happens _
  · split <;> exact .aside rfl

theorem State.writeDescriptor_happens (s : State) (w : WindowId) (i : Fin 6) (v : Word) :
    s.Happens (s.writeDescriptor w i v) := by
  unfold State.writeDescriptor
  split
  · next h =>
    split
    · exact .descriptor w _ h
    · exact .aside rfl
  · exact .aside rfl

/-- A write of any register but a descriptor's and the command register touches no window, entry or request (R156). -/
theorem State.writeReg_happens (s : State) (g : Reg) (v : Word) : s.Happens (s.writeReg g v) := by
  cases g
  case command => exact s.commandWrite_happens _
  case descriptor w i => exact s.writeDescriptor_happens w i v
  case flags =>
    refine .aside ?_
    show s.sameStore (s.writeFlags v)
    unfold State.writeFlags
    dsimp only
    split <;> split <;> rfl
  case holdLimit => refine .aside ?_; show s.sameStore (s.writeHoldLimit v); unfold State.writeHoldLimit; split <;> rfl
  case minimumGap => refine .aside ?_; show s.sameStore (s.writeGap v); unfold State.writeGap; split <;> rfl
  case internalPeriod => refine .aside ?_; show s.sameStore (s.writePeriod v); unfold State.writePeriod; split <;> rfl
  case failoverEnable =>
    refine .aside ?_
    show s.sameStore (s.writeFailover v)
    unfold State.writeFailover
    dsimp only
    split <;> rfl
  case trackerConfig t =>
    refine .aside ?_
    show s.sameStore (s.writeTrackerConfig t v)
    unfold State.writeTrackerConfig
    split
    · rfl
    · split
      · cases t <;> rfl
      · rfl
  case trackerEnable t =>
    refine .aside ?_
    show s.sameStore (s.writeTrackerEnable t v)
    unfold State.writeTrackerEnable State.enableTracker State.disableTracker
    split
    · split
      · cases t <;> rfl
      · rfl
    · split
      · rfl
      · split
        · rfl
        · cases t <;> rfl
  all_goals exact .aside rfl

/-- The port takes a request, or nothing changes (R45). -/
theorem State.takePresented_happens {u : State} (h : s.sameStore u) : s.Happens u.takePresented := by
  unfold State.takePresented
  split
  · next hc =>
    split
    · next r rest _ =>
      have hfree : u.port.busy = false := by
        simp only [State.canTake, Bool.and_eq_true, Bool.not_eq_true'] at hc
        exact hc.2
      exact .taken r (h.trans (t := u) (u := { u with hostBus := rest }) rfl) (by rw [h] at hfree; exact hfree)
    · exact .aside h
  · exact .aside h

/-- What each command but a hardware reset can do. -/
theorem exec_happens {c : Instr} (hc : c ≠ .hardwareReset) {t : State} (h : exec c s = .next t) : s.Happens t := by
  cases c <;> obtain rfl := Host.Outcome.next.inj h
  case hardwareReset => exact absurd rfl hc
  case hostSideRequest r => exact State.takePresented_happens (u := { s with hostBus := s.hostBus ++ [r] }) rfl
  case hostOriginCompletion n a => exact .hostAnswer n a
  case drainCompletion l a => exact .drainAnswer l a
  case holdTimeout n =>
    split
    · next hh => exact .timeout _ (List.mem_of_find?_eq_some hh)
    · exact .refl s
  case beatEdge t => exact .beats ((State.Beats.refl.takeOverdue t 8).edge t)
  case trackerMiss t =>
    split
    · exact .beats (State.Beats.refl.miss t)
    · exact .refl s
  case internalCandidate =>
    split
    · exact .beats State.Beats.refl.internalTick
    · exact .refl s
  case openWindow => exact s.command_happens _
  case closeWindow => exact s.command_happens _
  case selectSource => exact s.command_happens _
  case beatNow => exact s.command_happens _
  case initCommand => exact s.command_happens _
  case initEnd => exact .initEnd
  case undefinedCommand code => exact s.commandWrite_happens code
  case descriptorWrite w i d => exact s.writeDescriptor_happens w i _
  case holdLimitWrite d => exact s.writeReg_happens .holdLimit _
  case minimumGapWrite d => exact s.writeReg_happens .minimumGap _
  case internalPeriodWrite d => exact s.writeReg_happens .internalPeriod _
  case failoverEnableWrite d => exact s.writeReg_happens .failoverEnable _
  case trackerConfigurationWrite t d => exact s.writeReg_happens (.trackerConfig t) _
  case trackerEnableSet t => exact s.writeReg_happens (.trackerEnable t) 1
  case trackerEnableClear t => exact s.writeReg_happens (.trackerEnable t) 0
  case clearIgnoredWrite => exact .aside rfl
  case clearRefusedBusy => exact .aside rfl
  case pop => exact .aside rfl
  case overflowCountClear => exact .aside rfl
  case interruptEnableWrite d => exact .aside rfl
  case registerWrite o d =>
    unfold State.busWrite
    split
    · exact s.writeReg_happens _ _
    · exact .refl s
  case unmatchedMemoryAnswer a => exact .refl s

/-- What a step on an empty queue can do (R1). -/
theorem State.idle_happens (s : State) : s.Happens s.idle := by
  unfold State.idle
  split
  · exact .beats (State.Beats.refl.miss .a)
  · split
    · exact .beats (State.Beats.refl.miss .b)
    · split
      · next hh => exact .timeout _ (List.mem_of_find?_eq_some hh)
      · split
        · exact .beats State.Beats.refl.internalTick
        · split
          · exact State.takePresented_happens rfl
          · exact .aside rfl

/-- What a step can do: a hardware reset, or one of the happenings, to the state less the command it takes. -/
theorem step_happens {t : State} (h : step s = .next t) :
    (∃ rest, s.pending = .hardwareReset :: rest ∧ t = { State.reset with pending := rest }) ∨
      ({ s with pending := s.pending.tail } : State).Happens t := by
  rcases hp : s.pending with _ | ⟨c, rest⟩
  · rw [step_idle hp] at h
    obtain rfl := Host.Outcome.next.inj h
    have hs : ({ s with pending := [] } : State) = s := by rw [← hp]
    exact .inr (by rw [List.tail_nil, hs]; exact s.idle_happens)
  · rw [step_front hp] at h
    by_cases hc : c = .hardwareReset
    · subst hc
      exact .inl ⟨rest, rfl, (Host.Outcome.next.inj h).symm⟩
    · exact .inr (exec_happens hc h)

end Sys2Proof.Machine
end

section
/-! SUPPORT. Principles for the properties of the windows and the store that every step keeps: one for what the updates of the events do, one
for what the updates of a delivered beat do. -/

namespace Sys2Proof.Machine

/-- From `s` to `t` the windows, the pool and the drain queue are the same, and no drain write is added to the outstanding table. -/
def State.keepsStore (s t : State) : Prop :=
  t.windows = s.windows ∧ t.pool = s.pool ∧ t.drainQueue = s.drainQueue ∧
    ∀ r, Outstanding.drain r ∈ t.outstanding → Outstanding.drain r ∈ s.outstanding

/-- The entry of a first error is QUEUED again, with its error met, at the head of the drain queue (R115). -/
def State.requeue (s : State) (w : WindowId) (l : Line) : State :=
  { s with
    pool := s.pool.map fun e => if e.isCommittedOf w l then { e with gen := .committed .queued true } else e
    drainQueue := ⟨w, l⟩ :: s.drainQueue }

/-- A property that each update of the windows and of the store keeps, but for those of a beat, of OPEN and of the end of INIT. -/
structure StoreKeeps (P : State → Prop) : Prop extends SteeringKeeps P where
  ports : ∀ s t, s.keepsStore t → P s → P t
  issue : ∀ s waits k, P s → P (s.issuePicked (pickDrains waits k s.drainQueue))
  free : ∀ s p, P s → P (s.freeEntries p)
  requeue : ∀ s w l, (s.committedEntry w l).isSome = true → P s → P (s.requeue w l)
  timedOut : ∀ s w, P s → P (s.updWindow w fun v => { v with holdTimeouts := satInc v.holdTimeouts })
  discard : ∀ s w, (s.window w).state ≠ .off → P s → P (s.updWindow w Window.discarded)
  close : ∀ s w m, (s.window w).state ≠ .off → P s →
    P (s.updWindow w fun v => { v with state := .closing, closeMode := some m })
  turnOff : ∀ s w, s.canTurnOff w = true → P s → P (s.updWindow w Window.turnedOff)
  drop : ∀ s w, P s → P (s.updWindow w fun v => { v with drainFaults := satInc v.drainFaults })
  fault : ∀ s w, P s → P (s.updWindow w Window.faulted)

/-- A slip counted and noted (R95). -/
def Window.slipped (v : Window) : Window := { v with slips := satInc v.slips, slipNoted := true }

/-- A frame discarded late (R96). -/
def Window.lateDiscarded (v : Window) : Window :=
  { v.endDue with writeCount := 0, ready := false, torn := false, lateNoted := false, lateEvents := satInc v.lateEvents }

/-- A frame carried late, counted and noted (R97). -/
def Window.lateCarried (v : Window) : Window := { v with lateEvents := satInc v.lateEvents, lateNoted := true }

/-- A property that each update of a delivered beat keeps too. -/
structure BeatStoreKeeps (P : State → Prop) : Prop extends StoreKeeps P where
  countDown : ∀ s w, (s.window w).state = .active ∨ (s.window w).state = .closing → P s →
    P (s.updWindow w Window.countDown)
  idle : ∀ s w, (s.window w).state = .active → P s → P (s.updWindow w Window.endDue)
  commit : ∀ s w b, (s.window w).state = .active ∨ (s.window w).state = .closing → s.committedSet w = [] → P s →
    P (s.commitFrame w b)
  slip : ∀ s w, (s.window w).state ≠ .off → P s → P (s.updWindow w Window.slipped)
  lateDiscard : ∀ s w, (s.window w).state = .active → P s → P (s.updWindow w Window.lateDiscarded)
  lateCarry : ∀ s w, (s.window w).state ≠ .off → P s → P (s.updWindow w Window.lateCarried)

section Events

variable {P : State → Prop} (k : StoreKeeps P) {s : State}
include k

/-- Every update of a re-examination is one of steering or leaves the store as it is. -/
theorem StoreKeeps.passKeeps : PassKeeps P where
  toSteeringKeeps := k.toSteeringKeeps
  rehold _ _ _ _ _ _ := k.ports _ _ ⟨rfl, rfl, rfl, fun _ h => h⟩
  answer _ _ _ _ _ := k.ports _ _ ⟨rfl, rfl, rfl, fun _ h => h⟩
  send _ _ _ _ _ _ _ _ := k.ports _ _ ⟨rfl, rfl, rfl, fun _ h => h⟩

theorem StoreKeeps.issueHost (hs : P s) : P s.issueHost := by
  refine k.ports s _ ⟨rfl, rfl, rfl, fun r h => ?_⟩ hs
  rcases List.mem_append.mp h with h | h
  · exact h
  · obtain ⟨_, _, e⟩ := List.mem_map.mp h
    cases e

theorem StoreKeeps.drainIssue (hs : P s) : P s.drainIssue := by
  unfold State.drainIssue
  split
  · exact hs
  · exact k.issue _ _ _ hs

theorem StoreKeeps.drainIssueBut (w : WindowId) (hs : P s) : P (s.drainIssueBut w) := by
  unfold State.drainIssueBut
  split
  · exact hs
  · exact k.issue _ _ _ hs

theorem StoreKeeps.closeEvent (d snt : Bool) (t : List Nat) (hs : P s) : P (s.closeEvent d snt t) :=
  State.closeEvent_keeps (fun s h hm _ => s.reclassify_keeps k.passKeeps h hm) (fun _ => k.issueHost)
    (fun _ => k.drainIssue) s d snt t hs

theorem StoreKeeps.testOff (w : WindowId) (hs : P s) : P (s.testOff w) := by
  unfold State.testOff
  split
  · next h => exact k.notify _ _ _ _ _ (k.turnOff _ _ h hs)
  · exact hs

theorem StoreKeeps.judgeNew (r : Request) (hs : P s) : P (s.judgeNew r).state := by
  unfold State.judgeNew
  split
  · exact k.notify _ _ _ _ _ hs
  · exact classify_keeps k.toSteeringKeeps s _ _ _ _ hs

theorem StoreKeeps.enter (r : Request) (x : Steered) (hx : P x.state) : P (s.enter r x) := by
  unfold State.enter
  dsimp only
  split <;> exact k.ports x.state _ ⟨rfl, rfl, rfl, fun _ h => h⟩ hx

theorem StoreKeeps.takeRequest (r : Request) (hs : P s) : P (s.takeRequest r) :=
  k.closeEvent _ _ _ (k.enter r _ (k.judgeNew r hs))

theorem StoreKeeps.timeout (h : Held) (hs : P s) : P (s.timeout h) := by
  unfold State.timeout
  refine k.closeEvent _ _ _ (k.notify _ _ _ _ _ ?_)
  have answered : P ((s.unhold h.order).determine h.order h.request.initiator .error) :=
    k.ports s _ ⟨rfl, rfl, rfl, fun _ h => h⟩ hs
  cases h.window with
  | none => exact answered
  | some w => exact k.timedOut _ w answered

theorem StoreKeeps.closeTo (w : WindowId) (m : CloseMode) (h : (s.window w).state ≠ .off) (hs : P s) :
    P (s.closeTo w m) := by
  unfold State.closeTo
  dsimp only
  refine k.closeEvent _ _ _ (k.testOff w ?_)
  split
  · exact k.close _ _ _ (by simpa [Window.discarded] using h) (k.discard _ _ (by simpa using h) (k.free _ _ hs))
  · exact k.close _ _ _ h hs

theorem StoreKeeps.drained (w : WindowId) (l : Line) (hs : P s) : P (s.drained w l) := by
  unfold State.drained
  exact k.closeEvent _ _ _ (k.testOff w (k.free _ _ hs))

theorem StoreKeeps.dropEntry (w : WindowId) (l : Line) (hs : P s) : P (s.dropEntry w l) := by
  unfold State.dropEntry
  exact k.closeEvent _ _ _ (k.notify _ _ _ _ _ (k.fault _ w (k.drop _ w (k.free _ _ hs))))

theorem StoreKeeps.firstError (w : WindowId) (l : Line) (h : (s.committedEntry w l).isSome = true) (hs : P s) :
    P (s.firstError w l) := by
  have hq : P (s.requeue w l) := k.requeue s w l h hs
  unfold State.firstError
  dsimp only
  split
  · exact k.drainIssueBut w hq
  · exact k.drainIssue hq

/-- What a drain completion makes before the end test of INIT. -/
theorem StoreKeeps.drainCompletion (l : Line) (a : DrainAnswer) (hs : P s) :
    ∃ u, P u ∧ (s.drainCompletion l a = u ∨ s.drainCompletion l a = u.testInitEnd) := by
  have erased : P { s with outstanding := s.outstanding.eraseP (·.drains l) } :=
    k.ports s _ ⟨rfl, rfl, rfl, fun _ h => List.mem_of_mem_eraseP h⟩ hs
  unfold State.drainCompletion
  split
  · next r _ =>
    dsimp only
    split
    · exact ⟨_, erased, .inr rfl⟩
    · split
      · exact ⟨_, k.drainIssue erased, .inl rfl⟩
      · exact ⟨_, k.drained _ _ erased, .inl rfl⟩
      · next e he =>
        split
        · exact ⟨_, k.dropEntry _ _ erased, .inl rfl⟩
        · exact ⟨_, k.firstError _ _ (by rw [he]; rfl) erased, .inl rfl⟩
  · exact ⟨s, hs, .inl rfl⟩

/-- What a host-origin completion makes before the end test of INIT. -/
theorem StoreKeeps.hostCompletion (n : Nat) (a : MemAnswer) (hs : P s) :
    ∃ u, P u ∧ (s.hostCompletion n a = u ∨ s.hostCompletion n a = u.testInitEnd) := by
  unfold State.hostCompletion
  split
  · refine ⟨_, k.drainIssue (k.issueHost (k.ports s _ ?_ hs)), .inr rfl⟩
    cases a <;> exact ⟨rfl, rfl, rfl, fun _ h => List.mem_of_mem_eraseP h⟩
  · exact ⟨s, hs, .inl rfl⟩

/-- The held requests that INIT answers leave the windows and the store as they are (R83). -/
theorem StoreKeeps.answerHeld (hs : P s) : P s.answerHeld := by
  unfold State.answerHeld
  have start : P { s with holdQueue := [] } := k.ports s _ ⟨rfl, rfl, rfl, fun _ h => h⟩ hs
  generalize ({ s with holdQueue := [] } : State) = t at start
  induction s.holdQueue generalizing t with
  | nil => exact start
  | cons h q ih => exact ih _ (k.ports t _ ⟨rfl, rfl, rfl, fun _ h => h⟩ start)

end Events

theorem complete_keepsStore (c : CommandName) (x : ResultCode × State) : x.2.keepsStore (complete c x) :=
  ⟨rfl, rfl, rfl, fun _ h => h⟩

/-- What an event leaves, before the end of INIT where it is made: every property that the updates of an event keep is kept. -/
theorem State.Happens.cases {s t : State} (h : s.Happens t) :
    s.Beats t ∨ (∃ w d, (s.window w).state = .off ∧ t = s.updWindow w fun u => { u with desc := d }) ∨
      (∃ w, s.port.busy = false ∧ s.port.argument.window = w ∧ s.openResult w = .done ∧
        t = complete .openW (.done, s.updWindow w Window.opened)) ∨
      ∀ P, StoreKeeps P → P s → P t ∨ ∃ u, P u ∧ u.initDone = true ∧ t = u.endInit := by
  have ends : ∀ {P : State → Prop} (u : State), P u → P u.testInitEnd ∨ ∃ v, P v ∧ v.initDone = true ∧ u.testInitEnd = v.endInit := by
    intro P u hu
    unfold State.testInitEnd
    split
    · next hd => exact .inr ⟨u, hu, hd, rfl⟩
    · exact .inl hu
  cases h with
  | beats hb => exact .inl hb
  | descriptor w d hw => exact .inr (.inl ⟨w, d, hw, rfl⟩)
  | opened w hb ha hd => exact .inr (.inr (.inl ⟨w, hb, ha, hd, rfl⟩))
  | aside hst =>
    refine .inr (.inr (.inr fun P k hs => .inl (k.ports s t ?_ hs)))
    obtain ⟨hw, hp, -, -, -, hq, -, ho, -⟩ := State.sameStore_iff.mp hst
    exact ⟨hw, hp, hq, fun r hr => ho ▸ hr⟩
  | closed w m _ hw =>
    exact .inr (.inr (.inr fun P k hs => .inl (k.ports _ _ (complete_keepsStore .closeW _) (k.closeTo w m hw hs))))
  | @taken u r hst =>
    refine .inr (.inr (.inr fun P k hs => .inl (k.takeRequest r (k.ports s u ?_ hs))))
    obtain ⟨hw, hp, -, -, -, hq, -, ho, -⟩ := State.sameStore_iff.mp hst
    exact ⟨hw, hp, hq, fun r hr => ho ▸ hr⟩
  | timeout g _ => exact .inr (.inr (.inr fun P k hs => .inl (k.timeout g hs)))
  | hostAnswer n a =>
    refine .inr (.inr (.inr fun P k hs => ?_))
    obtain ⟨u, hu, e | e⟩ := k.hostCompletion n a hs
    · exact .inl (e ▸ hu)
    · exact e ▸ ends u hu
  | drainAnswer l a =>
    refine .inr (.inr (.inr fun P k hs => ?_))
    obtain ⟨u, hu, e | e⟩ := k.drainCompletion l a hs
    · exact .inl (e ▸ hu)
    · exact e ▸ ends u hu
  | init _ =>
    refine .inr (.inr (.inr fun P k hs => ?_))
    unfold State.takeInit
    exact ends _ (k.answerHeld (k.ports s _ ⟨rfl, rfl, rfl, fun _ h => h⟩ hs))
  | initEnd => exact .inr (.inr (.inr fun P _ hs => ends s hs))

section Beats

variable {P : State → Prop} (k : BeatStoreKeeps P) {s : State}
include k

theorem BeatStoreKeeps.beatKeeps (b : BitVec 32) : BeatKeeps P b where
  countDown := k.countDown
  idle s w h _ := k.idle s w h
  commit s w h hc := k.commit s w b h hc
  slip s w ha _ hs := by
    unfold State.slip
    split
    · exact hs
    · exact k.notify _ _ _ _ _ (k.slip s w (by rcases ha with e | e <;> simp [e]) hs)
  lateDiscard s w h hs := k.notify _ _ _ _ _ (k.lateDiscard _ w (by simpa using h) (k.free s _ hs))
  lateCarry s w ha _ hs := by
    unfold State.lateCarry
    split
    · exact hs
    · exact k.notify _ _ _ _ _ (k.lateCarry s w (by simp [ha]) hs)
  close _ d t hs := k.closeEvent d false t hs

/-- The trackers, the generator and BEAT_NOW keep what a delivered beat keeps (R86 to R99). -/
theorem BeatStoreKeeps.beats {t : State} (h : s.Beats t) (hs : P s) : P t := by
  have beat : ∀ u : State, P u → P u.evalBeat := fun u hu => u.evalBeat_keeps (k.beatKeeps _) hu
  induction h with
  | refl => exact hs
  | beside _ hst _ ih =>
    obtain ⟨hw, hp, -, -, -, hq, -, ho, -⟩ := State.sameStore_iff.mp hst
    exact k.ports _ _ ⟨hw, hp, hq, fun r hr => ho ▸ hr⟩ ih
  | @offer u c _ ih =>
    rcases u.offer_cases c with ⟨e, -⟩ | ⟨e, -⟩ | ⟨-, -, -, e⟩ | ⟨-, -, -, -, e⟩ <;> rw [e]
    · exact ih
    · exact ih
    · exact beat _ (k.ports u _ ⟨rfl, rfl, rfl, fun _ h => h⟩ ih)
    · exact beat _ (k.ports u _ ⟨rfl, rfl, rfl, fun _ h => h⟩ ih)

end Beats

/-! ### Properties of one window's record -/

/-- What one update of an event can do to a window's record. -/
inductive Window.Move (v : Window) : Window → Prop
  | steer {v' : Window} : v.state = .active →
      v' = { v with writeCount := v'.writeCount, ready := v'.ready, torn := v'.torn, exhaustions := v'.exhaustions } →
      (v'.writeCount = v.writeCount ∨ v'.writeCount = satInc v.writeCount) →
      (v'.exhaustions = v.exhaustions ∨ v'.exhaustions = satInc v.exhaustions) →
      (v'.ready = true → v.ready = true ∨ v.desc.readiness ≠ .any) → v.Move v'
  | timedOut : v.Move { v with holdTimeouts := satInc v.holdTimeouts }
  | discard : v.state ≠ .off → v.Move v.discarded
  | close (m : CloseMode) : v.state ≠ .off → v.Move { v with state := .closing, closeMode := some m }
  | turnOff : v.state = .closing → v.Move v.turnedOff
  | drop : v.Move { v with drainFaults := satInc v.drainFaults }
  | fault : v.Move v.faulted

/-- What one update of a delivered beat can do to a window's record. -/
inductive Window.BeatMove (v : Window) : Window → Prop
  | countDown : v.state = .active ∨ v.state = .closing → v.BeatMove v.countDown
  | idle : v.state = .active → v.BeatMove v.endDue
  | commit (b : BitVec 32) : v.state = .active ∨ v.state = .closing → v.BeatMove (v.committedAt b)
  | slip : v.state ≠ .off → v.BeatMove v.slipped
  | lateDiscard : v.state = .active → v.BeatMove v.lateDiscarded
  | lateCarry : v.state ≠ .off → v.BeatMove v.lateCarried

theorem State.commitFrame_windows (s : State) (w : WindowId) (b : BitVec 32) :
    (s.commitFrame w b).windows = (s.updWindow w (Window.committedAt b)).windows := by
  unfold State.commitFrame
  dsimp only
  split <;> rfl

theorem State.commitFrame_window (s : State) (w u : WindowId) (b : BitVec 32) :
    (s.commitFrame w b).window u = (s.updWindow w (Window.committedAt b)).window u :=
  State.window_congr (s.commitFrame_windows w b) u

section OneWindow

variable {Q : Window → Prop} (w : WindowId)

/-- An update of a window keeps a property of window `w`'s record if it keeps it where it is of `w`. -/
theorem State.updWindow_keeps {s : State} {u : WindowId} {f : Window → Window} (hf : Q (s.window u) → Q (f (s.window u)))
    (hs : Q (s.window w)) : Q ((s.updWindow u f).window w) := by
  rw [State.updWindow_window]
  split
  · next e => exact hf (e ▸ hs)
  · exact hs

/-- A property of a window's record that each move of the record keeps is kept by each update of the events. -/
theorem StoreKeeps.ofWindow (hQ : ∀ v v' : Window, v.Move v' → Q v → Q v') : StoreKeeps fun s => Q (s.window w) where
  notify _ _ _ _ _ h := h
  update s u f hf h := State.updWindow_keeps w (hQ _ _ (.steer hf.active hf.fields hf.count hf.met hf.sets)) h
  allocate _ _ _ _ _ _ h := h
  merge _ _ _ _ h := h
  ports s t h hs := by rwa [State.window_congr h.1]
  issue _ _ _ h := h
  free _ _ h := h
  requeue _ _ _ _ h := h
  timedOut _ _ h := State.updWindow_keeps w (hQ _ _ .timedOut) h
  discard _ _ ho h := State.updWindow_keeps w (hQ _ _ (.discard ho)) h
  close _ _ m ho h := State.updWindow_keeps w (hQ _ _ (.close m ho)) h
  turnOff s u hc h := by
    refine State.updWindow_keeps w (hQ _ _ (.turnOff ?_)) h
    simp only [State.canTurnOff, Bool.and_eq_true, beq_iff_eq] at hc
    exact hc.1.1
  drop _ _ h := State.updWindow_keeps w (hQ _ _ .drop) h
  fault _ _ h := State.updWindow_keeps w (hQ _ _ .fault) h

/-- A property that each move of a beat keeps too is kept by each update of a delivered beat. -/
theorem BeatStoreKeeps.ofWindow (hQ : ∀ v v' : Window, v.Move v' → Q v → Q v')
    (hB : ∀ v v' : Window, v.BeatMove v' → Q v → Q v') : BeatStoreKeeps fun s => Q (s.window w) where
  toStoreKeeps := StoreKeeps.ofWindow w hQ
  countDown _ _ ha h := State.updWindow_keeps w (hB _ _ (.countDown ha)) h
  idle _ _ ha h := State.updWindow_keeps w (hB _ _ (.idle ha)) h
  commit s u b ha _ h := by
    rw [State.commitFrame_window]
    exact State.updWindow_keeps w (hB _ _ (.commit b ha)) h
  slip _ _ ha h := State.updWindow_keeps w (hB _ _ (.slip ha)) h
  lateDiscard _ _ ha h := State.updWindow_keeps w (hB _ _ (.lateDiscard ha)) h
  lateCarry _ _ ha h := State.updWindow_keeps w (hB _ _ (.lateCarry ha)) h

/-- A property of window `w`'s record that every move of it keeps is kept by every step, but where a reset, an OPEN, a descriptor write or
the end of INIT gives the window a new record. -/
theorem window_law (hQ : ∀ v v' : Window, v.Move v' → Q v → Q v') (hB : ∀ v v' : Window, v.BeatMove v' → Q v → Q v') {s t : State}
    (h : step s = .next t) (hs : Q (s.window w)) :
    Q (t.window w) ∨
      (t.window w = Window.cleared Descriptor.reset ∧ ∃ rest, s.pending = .hardwareReset :: rest) ∨
      (∃ d, (s.window w).state = .off ∧ t.window w = { s.window w with desc := d }) ∨
      (s.port.busy = false ∧ s.port.argument.window = w ∧ s.openResult w = .done ∧ t.window w = (s.window w).opened ∧
        t.port.result = some (.done, .openW)) ∨
      ∃ u : State, Q (u.window w) ∧ u.initDone = true ∧ t = u.endInit := by
  rcases step_happens h with ⟨rest, hp, rfl⟩ | hh
  · exact .inr (.inl ⟨State.reset_window w, rest, hp⟩)
  rcases hh.cases with hb | ⟨u, d, hu, rfl⟩ | ⟨u, hb, ha, hr, rfl⟩ | keeps
  · exact .inl ((BeatStoreKeeps.ofWindow w hQ hB).beats hb hs)
  · by_cases e : w = u
    · subst e
      exact .inr (.inr (.inl ⟨d, hu, State.updWindow_self _ w _⟩))
    · exact .inl (by rw [State.updWindow_other _ _ e]; exact hs)
  · by_cases e : w = u
    · subst e
      exact .inr (.inr (.inr (.inl ⟨hb, ha, hr, State.updWindow_self _ w _, rfl⟩)))
    · exact .inl ((congrArg Q (State.updWindow_other _ _ e)).mpr hs)
  · rcases keeps _ (StoreKeeps.ofWindow w hQ) hs with ht | ⟨u, hu⟩
    · exact .inl ht
    · exact .inr (.inr (.inr (.inr ⟨u, hu⟩)))

end OneWindow

end Sys2Proof.Machine
end

section
/-! The laws of a window's record: its values (R6, R9, R11, R89), its descriptor (R3, R4), and how it leaves OFF (R12 to R18). -/

namespace Sys2Proof.Machine

theorem State.endInit_window (s : State) (w : WindowId) : s.endInit.window w = Window.cleared (s.window w).desc := by
  simp [State.window, State.endInit]

/-! ### The values of a record -/

theorem Window.reload_pos (v : Window) : 0 < v.reload := Nat.two_pow_pos _

theorem Window.cleared_lawful (d : Descriptor) : (Window.cleared d).lawful := by
  simp [Window.lawful, Window.cleared]

/-- After OPEN the countdown is 2^k, so the window is not due (R9, R14). -/
theorem Window.opened_lawful (v : Window) : v.opened.lawful := by
  have := v.reload_pos
  simp [Window.lawful, Window.opened, Window.cleared, Window.reload]

/-- A descriptor written while the window is OFF (R4). -/
theorem Window.lawful_withDesc {v : Window} (h : v.lawful) (ho : v.state = .off) (d : Descriptor) :
    ({ v with desc := d } : Window).lawful := by
  obtain ⟨hmode, hoff, -, -, -, -, hcounts⟩ := h
  obtain ⟨-, -, hready, -⟩ := hoff ho
  exact ⟨hmode, hoff, by simp [ho], by simp [ho], by simp [ho], by simp [hready], hcounts⟩

/-- Each update of an event keeps a record at values of its state. -/
theorem Window.Move.lawful {v v' : Window} (m : v.Move v') (h : v.lawful) : v'.lawful := by
  obtain ⟨hmode, hoff, hdue, hdown, hfault, hready, hw, hl, hs, he, ht, hd⟩ := h
  cases m with
  | steer ha hfields hcount hmet hsets =>
    have count_le : v'.writeCount ≤ 65535 := by
      rcases hcount with e | e <;> rw [e]
      · exact hw
      · exact satInc_le _ hw
    have met_le : v'.exhaustions ≤ 65535 := by
      rcases hmet with e | e <;> rw [e]
      · exact he
      · exact satInc_le _ he
    have ready_ok : v'.ready = true → v.desc.readiness ≠ .any := fun hr => (hsets hr).elim hready id
    rw [hfields]
    exact ⟨hmode, by simp [ha], hdue, hdown, by simp [ha], ready_ok, count_le, hl, hs, met_le, ht, hd⟩
  | timedOut => exact ⟨hmode, hoff, hdue, hdown, hfault, hready, hw, hl, hs, he, satInc_le _ ht, hd⟩
  | discard ho =>
    exact ⟨hmode, fun h => absurd h ho, hdue, hdown, fun h => ⟨rfl, (hfault h).2⟩, by simp [Window.discarded],
      Nat.zero_le _, hl, hs, he, ht, hd⟩
  | close c ho =>
    exact ⟨by simp, by simp, by simp, fun _ => hdown ho, by simp, hready, hw, hl, hs, he, ht, hd⟩
  | turnOff hc => simp [Window.lawful, Window.turnedOff, hl, hs, he, ht, hd]
  | drop => exact ⟨hmode, hoff, hdue, hdown, hfault, hready, hw, hl, hs, he, ht, satInc_le _ hd⟩
  | fault =>
    unfold Window.faulted
    split
    · next hst => exact ⟨by simp, by simp, by simp, fun _ => hdown (by simp [hst]), by simp, by simp, hw, hl, hs, he, ht, hd⟩
    · next hst => exact ⟨by simp, by simp, by simp, fun _ => hdown (by simp [hst]), by simp, by simp, hw, hl, hs, he, ht, hd⟩
    all_goals exact ⟨hmode, hoff, hdue, hdown, hfault, hready, hw, hl, hs, he, ht, hd⟩

/-- Each update of a delivered beat keeps a record at values of its state (R89). -/
theorem Window.BeatMove.lawful {v v' : Window} (m : v.BeatMove v') (h : v.lawful) : v'.lawful := by
  have hpos := v.reload_pos
  unfold Window.reload at hpos
  obtain ⟨hmode, hoff, hdue, hdown, hfault, hready, hw, hl, hs, he, ht, hd⟩ := h
  cases m with
  | countDown ha =>
    have hno : v.state ≠ .off := by rcases ha with e | e <;> simp [e]
    have hnf : v.state ≠ .faulted := by rcases ha with e | e <;> simp [e]
    have hle := hdown hno
    unfold Window.countDown
    split
    · exact ⟨hmode, hoff, hdue, hdown, hfault, hready, hw, hl, hs, he, ht, hd⟩
    · exact ⟨hmode, fun h => absurd h hno, fun _ => beq_iff_eq, fun _ => by dsimp only; omega, fun h => absurd h hnf,
        hready, hw, hl, hs, he, ht, hd⟩
  | idle ha =>
    exact ⟨hmode, by simp [Window.endDue, ha], fun _ => by simp [Window.endDue, Window.reload],
      fun _ => Nat.le_refl _, by simp [Window.endDue, ha], hready, hw, hl, hs, he, ht, hd⟩
  | commit b ha =>
    have hno : v.state ≠ .off := by rcases ha with e | e <;> simp [e]
    exact ⟨hmode, fun h => absurd h hno, fun _ => by simp [Window.committedAt, Window.endDue, Window.reload],
      fun _ => Nat.le_refl _, fun _ => ⟨rfl, rfl⟩, by simp [Window.committedAt], Nat.zero_le _, hl, hs, he, ht, hd⟩
  | slip ha => exact ⟨hmode, fun h => absurd h ha, hdue, hdown, hfault, hready, hw, hl, satInc_le _ hs, he, ht, hd⟩
  | lateDiscard ha =>
    exact ⟨hmode, by simp [Window.lateDiscarded, Window.endDue, ha],
      fun _ => by simp [Window.lateDiscarded, Window.endDue, Window.reload], fun _ => Nat.le_refl _,
      fun _ => ⟨rfl, rfl⟩, by simp [Window.lateDiscarded], Nat.zero_le _, satInc_le _ hl, hs, he, ht, hd⟩
  | lateCarry ha =>
    exact ⟨hmode, fun h => absurd h ha, hdue, hdown, hfault, hready, hw, satInc_le _ hl, hs, he, ht, hd⟩

/-- Settles O13: each move of a record keeps it lawful, and so do the records that OPEN, a descriptor write, the end of INIT and reset give. -/
theorem windowRecordsStayLawful : Obligations.WindowRecordsStayLawful := by
  intro s t w hs hst
  rcases window_law w (fun _ _ => Window.Move.lawful) (fun _ _ => Window.BeatMove.lawful) hst hs with
    ht | ⟨ht, -⟩ | ⟨d, ho, ht⟩ | ⟨-, -, -, ht, -⟩ | ⟨u, -, -, rfl⟩
  · exact ht
  · exact ht ▸ Window.cleared_lawful _
  · exact ht ▸ Window.lawful_withDesc hs ho d
  · exact ht ▸ Window.opened_lawful _
  · exact u.endInit_window w ▸ Window.cleared_lawful _

/-! ### The descriptor, and leaving OFF -/

theorem Window.Move.desc {v v' : Window} (m : v.Move v') : v'.desc = v.desc := by
  cases m with
  | steer _ hfields => rw [hfields]
  | fault => unfold Window.faulted; split <;> rfl
  | _ => rfl

theorem Window.BeatMove.desc {v v' : Window} (m : v.BeatMove v') : v'.desc = v.desc := by
  cases m with
  | countDown => unfold Window.countDown; split <;> rfl
  | _ => rfl

/-- Settles O18: no move of a record touches its descriptor, and only an OFF window's descriptor is written. -/
theorem descriptorsAreFixedWhileOpen : Obligations.DescriptorsAreFixedWhileOpen := by
  intro s t w ho hst
  rcases window_law (Q := fun v => v.desc = (s.window w).desc) w (fun _ _ m h => m.desc.trans h) (fun _ _ m h => m.desc.trans h)
    hst rfl with ht | ⟨-, hreset⟩ | ⟨-, hoff, -⟩ | ⟨-, -, -, ht, -⟩ | ⟨u, hu, -, rfl⟩
  · exact .inl ht
  · exact .inr hreset
  · exact absurd hoff ho
  · exact .inl (ht ▸ rfl)
  · exact .inl ((congrArg Window.desc (u.endInit_window w)).trans hu)

/-- No event opens a window: an OFF record stays OFF (R12). -/
theorem Window.Move.stays_off {v v' : Window} (m : v.Move v') (h : v.state = .off) : v'.state = .off := by
  cases m with
  | steer ha => simp [h] at ha
  | discard ho => exact absurd h ho
  | close _ ho => exact absurd h ho
  | turnOff => rfl
  | fault => simp [Window.faulted, h]
  | _ => exact h

theorem Window.BeatMove.state {v v' : Window} (m : v.BeatMove v') : v'.state = v.state := by
  cases m with
  | countDown => exact v.countDown_state
  | _ => rfl

/-- A window that is not ACTIVE becomes so in no event (R15, R18). -/
theorem Window.Move.not_active {v v' : Window} (m : v.Move v') (h : v.state ≠ .active) : v'.state ≠ .active := by
  cases m with
  | steer ha => exact absurd ha h
  | discard => exact h
  | close => simp
  | turnOff => simp [Window.turnedOff]
  | fault =>
    unfold Window.faulted
    split <;> simp_all
  | _ => exact h

/-- Settles O19: the moves of a record lead neither out of OFF nor into ACTIVE, so only OPEN does. -/
theorem windowsLeaveOffByOpenAlone : Obligations.WindowsLeaveOffByOpenAlone := by
  intro s t w hst
  refine ⟨fun hoff => ?_, fun ho hact => ?_⟩
  · rcases window_law (Q := fun v => v.state = .off) w (fun _ _ m h => m.stays_off h) (fun _ _ m h => m.state.trans h) hst hoff with
      ht | ⟨ht, -⟩ | ⟨d, -, ht⟩ | ⟨hb, ha, hr, ht, -⟩ | ⟨u, -, -, rfl⟩
    · exact .inl ht
    · exact .inl (ht ▸ rfl)
    · exact .inl (ht ▸ hoff)
    · exact .inr ⟨ht, hr, hb, ha⟩
    · exact .inl (u.endInit_window w ▸ rfl)
  · by_contra hna
    rcases window_law (Q := fun v => v.state ≠ .active) w (fun _ _ m h => m.not_active h) (fun _ _ m h => m.state ▸ h) hst hna with
      ht | ⟨ht, -⟩ | ⟨d, hoff, -⟩ | ⟨-, -, hr, -⟩ | ⟨u, -, -, rfl⟩
    · exact ht hact
    · simp [ht, Window.cleared] at hact
    · exact ho hoff
    · simp [State.openResult, ho] at hr
    · simp [u.endInit_window w, Window.cleared] at hact

end Sys2Proof.Machine
end

section
/-! The law of the staging store (R12, R28, R106) through every step, and what the state after reset holds. -/

namespace Sys2Proof.Machine

variable {s : State}

/-! ### Counts, drain writes and the drain queue -/

/-- The part of the law that is about windows: OFF windows own nothing, and no window owns more than its quota (R12, R28). -/
def State.windowOwns (s : State) (w : WindowId) : Prop :=
  ((s.window w).state = .off → s.inUse w = 0 ∧ ∀ r, Outstanding.drain r ∈ s.outstanding → r.window ≠ w) ∧
    (s.inUse w ≤ (s.window w).desc.quota.toNat ∨ (s.window w).state = .off)

/-- The drain queue names COMMITTED entries of the pool (R106). -/
def State.queueNames (s : State) : Prop := ∀ d ∈ s.drainQueue, ∃ e ∈ s.pool, e.isCommittedOf d.window d.line = true

theorem State.storeLawful_iff : s.storeLawful ↔ (∀ w, s.windowOwns w) ∧ s.queueNames :=
  ⟨fun ⟨hoff, hquota, hq⟩ => ⟨fun w => ⟨hoff w, hquota w⟩, hq⟩, fun ⟨ho, hq⟩ => ⟨fun w => (ho w).1, fun w => (ho w).2, hq⟩⟩

/-- A window that owns no more than before, has the same state and quota, and no new drain write, keeps the law. -/
theorem State.windowOwns.mono {t : State} {w : WindowId} (h : s.windowOwns w) (hw : (t.window w).state = (s.window w).state)
    (hd : (t.window w).desc = (s.window w).desc) (hu : t.inUse w ≤ s.inUse w)
    (ho : ∀ r, Outstanding.drain r ∈ t.outstanding → Outstanding.drain r ∈ s.outstanding) : t.windowOwns w := by
  obtain ⟨hoff, hq⟩ := h
  refine ⟨fun e => ?_, ?_⟩
  · obtain ⟨h0, hn⟩ := hoff (hw ▸ e)
    exact ⟨Nat.le_zero.mp (h0 ▸ hu), fun r hr => hn r (ho r hr)⟩
  · exact hq.imp (fun h => hd ▸ Nat.le_trans hu h) (fun h => hw ▸ h)

/-- A window that owns an entry is not OFF (R12). -/
theorem State.windowOwns.not_off {w : WindowId} (h : s.windowOwns w) {e : Entry} (he : e ∈ s.pool) (hw : e.window = w) :
    (s.window w).state ≠ .off := by
  intro hoff
  have h0 := (h.1 hoff).1
  unfold State.inUse at h0
  rw [List.countP_eq_zero] at h0
  exact h0 e he (by simpa using hw)

theorem Entry.isCommittedOf_iff {e : Entry} {w : WindowId} {l : Line} :
    e.isCommittedOf w l = true ↔ e.window = w ∧ e.line = l ∧ e.isPending = false := by
  simp [Entry.isCommittedOf, and_assoc]

theorem State.committedEntry_some {w : WindowId} {l : Line} {e : Entry} (h : s.committedEntry w l = some e) :
    e ∈ s.pool ∧ e.isCommittedOf w l = true := by
  unfold State.committedEntry at h
  exact ⟨List.mem_of_find?_eq_some h, List.find?_some (p := fun e : Entry => e.isCommittedOf w l) h⟩

theorem State.pendingEntry_some {w : WindowId} {l : Line} {e : Entry} (h : s.pendingEntry w l = some e) :
    e ∈ s.pool ∧ e.isPendingOf w l = true := by
  unfold State.pendingEntry at h
  exact ⟨List.mem_of_find?_eq_some h, List.find?_some (p := fun e : Entry => e.isPendingOf w l) h⟩

/-- A window whose record changes but not into OFF, with the same descriptor, keeps the law while it was not OFF. -/
theorem State.windowOwns.update {w u : WindowId} {f : Window → Window} (h : s.windowOwns w)
    (hf : (s.window u).state = .off → (f (s.window u)).state = .off) (hd : (f (s.window u)).desc = (s.window u).desc)
    (hn : (f (s.window u)).state = .off → (s.window u).state ≠ .off →
      s.inUse u = 0 ∧ ∀ r, Outstanding.drain r ∈ s.outstanding → r.window ≠ u) : (s.updWindow u f).windowOwns w := by
  by_cases e : w = u
  · subst e
    have hw : (s.updWindow w f).window w = f (s.window w) := State.updWindow_self s w f
    refine ⟨fun hoff => ?_, ?_⟩
    · by_cases ho : (s.window w).state = .off
      · exact h.1 ho
      · exact hn (hw ▸ hoff) ho
    · rw [hw, hd]
      exact h.2.imp_right hf
  · have hw : (s.updWindow u f).window w = s.window w := State.updWindow_other s f e
    exact h.mono (by rw [hw]) (by rw [hw]) (Nat.le_refl _) fun _ hr => hr

theorem State.storeLawful.update {u : WindowId} {f : Window → Window} (h : s.storeLawful)
    (hf : (s.window u).state = .off → (f (s.window u)).state = .off) (hd : (f (s.window u)).desc = (s.window u).desc)
    (hn : (f (s.window u)).state = .off → (s.window u).state ≠ .off →
      s.inUse u = 0 ∧ ∀ r, Outstanding.drain r ∈ s.outstanding → r.window ≠ u) : (s.updWindow u f).storeLawful := by
  obtain ⟨ho, hq⟩ := State.storeLawful_iff.mp h
  exact State.storeLawful_iff.mpr ⟨fun w => (ho w).update hf hd hn, hq⟩

/-- A change of one entry after another that keeps each COMMITTED entry so keeps what the queue names. -/
theorem State.queueNames_map {q : List DrainRef} {g : Entry → Entry} (h : ∀ d ∈ q, ∃ e ∈ s.pool, e.isCommittedOf d.window d.line = true)
    (hg : ∀ e w l, e.isCommittedOf w l = true → (g e).isCommittedOf w l = true) :
    ∀ d ∈ q, ∃ e ∈ s.pool.map g, e.isCommittedOf d.window d.line = true := fun d hd => by
  obtain ⟨e, he, hc⟩ := h d hd
  exact ⟨g e, List.mem_map_of_mem he, hg e _ _ hc⟩

/-- An issue of entries of the drain queue: their windows own them, so none is OFF (R107, R110). -/
theorem State.storeLawful.issuePicked (h : s.storeLawful) (waits : DrainRef → Bool) (k : Nat) :
    (s.issuePicked (pickDrains waits k s.drainQueue)).storeLawful := by
  obtain ⟨ho, hq⟩ := State.storeLawful_iff.mp h
  obtain ⟨-, -, hpick, hleft, -⟩ := pickDrains_spec waits k s.drainQueue
  have hkeys := s.issuePicked_keys (pickDrains waits k s.drainQueue)
  refine State.storeLawful_iff.mpr ⟨fun w => ⟨fun hoff => ?_, ?_⟩, fun d hd => ?_⟩
  · obtain ⟨h0, hn⟩ := (ho w).1 hoff
    refine ⟨(State.inUse_congr hkeys w).trans h0, fun r hr => ?_⟩
    rcases List.mem_append.mp hr with hr | hr
    · exact hn r hr
    · obtain ⟨d, hd, e⟩ := List.mem_map.mp hr
      obtain rfl : d = r := Outstanding.drain.inj e
      obtain ⟨e, he, hc⟩ := hq d (hpick.subset hd)
      rintro rfl
      exact (ho _).not_off he (Entry.isCommittedOf_iff.mp hc).1 hoff
  · rw [State.inUse_congr hkeys w]
    exact (ho w).2
  · refine State.queueNames_map hq (fun e w l hc => ?_) d (hleft.subset hd)
    rw [Entry.isCommittedOf_iff] at hc ⊢
    split <;> simpa using hc

/-- A free leaves in the drain queue the names of entries it does not free (R39). -/
theorem State.storeLawful.freeEntries (h : s.storeLawful) (p : Entry → Bool) : (s.freeEntries p).storeLawful := by
  obtain ⟨ho, hq⟩ := State.storeLawful_iff.mp h
  refine State.storeLawful_iff.mpr ⟨fun w => ?_, fun d hd => ?_⟩
  · have := s.freeEntries_inUse p w
    exact (ho w).mono (by simp) (by simp) (by omega) fun _ hr => hr
  · obtain ⟨hmem, hnot⟩ := List.mem_filter.mp hd
    obtain ⟨e, he, hc⟩ := hq d hmem
    simp only [Bool.not_eq_true', List.any_eq_false, Bool.and_eq_true, not_and] at hnot
    exact ⟨e, List.mem_filter.mpr ⟨he, by simpa using fun hp => hnot e he hp hc⟩, hc⟩

theorem State.storeLawful.requeue (h : s.storeLawful) {w : WindowId} {l : Line} (hc : (s.committedEntry w l).isSome = true) :
    (s.requeue w l).storeLawful := by
  obtain ⟨ho, hq⟩ := State.storeLawful_iff.mp h
  have keeps : ∀ (e : Entry) (u : WindowId) (m : Line), e.isCommittedOf u m = true →
      (if e.isCommittedOf w l then { e with gen := Generation.committed .queued true } else e).isCommittedOf u m = true := by
    intro e u m hcu
    split
    · exact hcu ▸ by simp_all [Entry.isCommittedOf, Entry.isPending]
    · exact hcu
  refine State.storeLawful_iff.mpr ⟨fun u => ?_, fun d hd => ?_⟩
  · refine (ho u).mono rfl rfl (Nat.le_of_eq (State.inUse_congr ?_ u)) fun _ hr => hr
    simp only [State.requeue, List.map_map]
    refine List.map_congr_left fun e _ => ?_
    simp only [Function.comp_apply]
    split
    · next hce =>
      show (e.window, e.line, false) = e.key
      rw [Entry.key, (Entry.isCommittedOf_iff.mp hce).2.2]
    · rfl
  · rcases List.mem_cons.mp hd with rfl | hd
    · obtain ⟨e, he⟩ := Option.isSome_iff_exists.mp hc
      obtain ⟨hmem, hce⟩ := State.committedEntry_some he
      exact ⟨_, List.mem_map_of_mem hmem, keeps e _ _ hce⟩
    · exact State.queueNames_map hq keeps d hd

/-- An allocation into an ACTIVE window within its quota (R28, R30). -/
theorem State.storeLawful.allocate (h : s.storeLawful) {w : WindowId} (l : Line) (ha : (s.window w).state = .active)
    (hok : s.allocOk w = true) : (s.allocate w l).storeLawful := by
  obtain ⟨ho, hq⟩ := State.storeLawful_iff.mp h
  refine State.storeLawful_iff.mpr ⟨fun u => ?_, fun d hd => ?_⟩
  · by_cases e : u = w
    · subst e
      refine ⟨fun hoff => by simp [ha] at hoff, .inl ?_⟩
      simp only [State.allocOk, Bool.and_eq_true, decide_eq_true_eq] at hok
      rw [State.inUse_allocate, if_pos rfl]
      exact hok.1
    · refine (ho u).mono rfl rfl ?_ fun _ hr => hr
      rw [State.inUse_allocate, if_neg e]
      exact Nat.le_refl _
  · obtain ⟨e, he, hc⟩ := hq d hd
    exact ⟨e, List.mem_append_left _ he, hc⟩

theorem State.commitFrame_keys (s : State) (w : WindowId) (b : BitVec 32) (u : WindowId) :
    (s.commitFrame w b).inUse u = s.inUse u ∧ (s.commitFrame w b).outstanding = s.outstanding ∧
      (s.commitFrame w b).pool = s.pool.map (fun e => if e.window == w && e.isPending then e.commit else e) ∧
      (s.commitFrame w b).drainQueue = s.drainQueue ++ (s.pendingList w).map fun e => ⟨w, e.line⟩ := by
  have hpool : (s.commitFrame w b).pool = s.pool.map (fun e => if e.window == w && e.isPending then e.commit else e) := by
    unfold State.commitFrame
    dsimp only
    split <;> rfl
  refine ⟨?_, ?_, hpool, ?_⟩
  · unfold State.inUse
    rw [hpool, List.countP_map]
    refine List.countP_congr fun e _ => ?_
    simp only [Function.comp_apply]
    split <;> rfl
  all_goals
    unfold State.commitFrame
    dsimp only
    split <;> rfl

/-- A commit names in the drain queue the entries it makes COMMITTED (R26, R93). -/
theorem State.storeLawful.commitFrame (h : s.storeLawful) {w : WindowId} (b : BitVec 32)
    (hno : (s.window w).state ≠ .off) : (s.commitFrame w b).storeLawful := by
  obtain ⟨ho, hq⟩ := State.storeLawful_iff.mp h
  refine State.storeLawful_iff.mpr ⟨fun u => ?_, ?_⟩
  · obtain ⟨huse, hout, -⟩ := s.commitFrame_keys w b u
    have hu : ((s.commitFrame w b).window u).state = (s.window u).state ∧
        ((s.commitFrame w b).window u).desc = (s.window u).desc := by
      rw [State.commitFrame_window, State.updWindow_window]
      split
      · next e => subst e; exact ⟨rfl, rfl⟩
      · exact ⟨rfl, rfl⟩
    exact (ho u).mono hu.1 hu.2 (Nat.le_of_eq huse) fun r hr => hout ▸ hr
  · obtain ⟨-, -, hpool, hqueue⟩ := s.commitFrame_keys w b w
    unfold State.queueNames
    rw [hpool, hqueue]
    intro d hd
    rcases List.mem_append.mp hd with hd | hd
    · refine State.queueNames_map hq (fun e u l hc => ?_) d hd
      have := (Entry.isCommittedOf_iff.mp hc).2.2
      simpa [this] using hc
    · obtain ⟨e, he, rfl⟩ := List.mem_map.mp hd
      obtain ⟨hmem, hp⟩ := List.mem_filter.mp he
      refine ⟨e.commit, List.mem_map.mpr ⟨e, hmem, if_pos hp⟩, ?_⟩
      simp only [Bool.and_eq_true, beq_iff_eq] at hp
      simp [Entry.isCommittedOf, Entry.commit, Entry.isPending, hp.1]

/-- The store law is kept by every update of an event and of a beat. -/
theorem storeLawful_keeps : BeatStoreKeeps State.storeLawful where
  notify _ _ _ _ _ h := h
  update s w f hf h := by
    have hst : (f (s.window w)).state = .active := by rw [hf.fields]; exact hf.active
    exact h.update (by simp [hf.active]) (by rw [hf.fields]) (by simp [hst])
  allocate _ _ l ha hok _ h := h.allocate l ha hok
  merge s w r _ h := by
    obtain ⟨ho, hq⟩ := State.storeLawful_iff.mp h
    refine State.storeLawful_iff.mpr ⟨fun u => (ho u).mono rfl rfl (Nat.le_of_eq (s.merge_inUse w u r)) fun _ hr => hr, ?_⟩
    refine State.queueNames_map hq fun e u l hc => ?_
    split <;> exact hc
  ports s t hst h := by
    obtain ⟨hw, hp, hqueue, hout⟩ := hst
    obtain ⟨ho, hq⟩ := State.storeLawful_iff.mp h
    refine State.storeLawful_iff.mpr ⟨fun u => ?_, by unfold State.queueNames; rw [hp, hqueue]; exact hq⟩
    have huse : t.inUse u = s.inUse u := by unfold State.inUse; rw [hp]
    exact (ho u).mono (by rw [State.window_congr hw]) (by rw [State.window_congr hw]) (Nat.le_of_eq huse) hout
  issue _ waits k h := h.issuePicked waits k
  free _ p h := h.freeEntries p
  requeue _ _ _ hc h := h.requeue hc
  timedOut _ _ h := h.update id rfl (fun hoff hno => absurd hoff hno)
  discard _ _ _ h := h.update id rfl (fun hoff hno => absurd hoff hno)
  close _ _ _ hno h := h.update (fun hoff => absurd hoff hno) rfl (by simp)
  turnOff s w hc h := by
    refine h.update (fun _ => rfl) rfl fun _ _ => ?_
    simp only [State.canTurnOff, Bool.and_eq_true, beq_iff_eq, Bool.not_eq_true', List.any_eq_false] at hc
    obtain ⟨⟨-, h0⟩, hn⟩ := hc
    exact ⟨h0, fun r hr e => hn _ hr (by simpa [Outstanding.isDrainOf] using e)⟩
  drop _ _ h := h.update id rfl (fun hoff hno => absurd hoff hno)
  fault s w h := by
    have hd : (s.window w).faulted.desc = (s.window w).desc := Window.Move.fault.desc
    refine h.update Window.Move.fault.stays_off hd fun hoff hno => absurd hoff ?_
    unfold Window.faulted
    split <;> simp_all
  countDown s w ha h := by
    refine h.update ?_ (Window.BeatMove.countDown ha).desc ?_ <;> rw [Window.countDown_state]
    · exact id
    · exact fun hoff hno => absurd hoff hno
  idle _ _ _ h := h.update id rfl (fun hoff hno => absurd hoff hno)
  commit _ _ b ha _ h := h.commitFrame b (by rcases ha with e | e <;> simp [e])
  slip _ _ _ h := h.update id rfl (fun hoff hno => absurd hoff hno)
  lateDiscard _ _ _ h := h.update id rfl (fun hoff hno => absurd hoff hno)
  lateCarry _ _ _ h := h.update id rfl (fun hoff hno => absurd hoff hno)

/-- An OFF window owns nothing, so a new descriptor, or OPEN, leaves it within its quota (R12, R28). -/
theorem State.storeLawful.updateOff {u : WindowId} {f : Window → Window} (h : s.storeLawful) (hoff : (s.window u).state = .off) :
    (s.updWindow u f).storeLawful := by
  obtain ⟨ho, hq⟩ := State.storeLawful_iff.mp h
  refine State.storeLawful_iff.mpr ⟨fun w => ?_, hq⟩
  by_cases e : w = u
  · subst e
    have own := (ho w).1 hoff
    exact ⟨fun _ => own, .inl ((Nat.le_of_eq own.1).trans (Nat.zero_le _))⟩
  · have hw : (s.updWindow u f).window w = s.window w := State.updWindow_other s f e
    exact (ho w).mono (by rw [hw]) (by rw [hw]) (Nat.le_refl _) fun _ hr => hr

/-- A state with an empty pool, no drain write and an empty drain queue is lawful. -/
theorem State.storeLawful_of_empty (hp : s.pool = []) (hq : s.drainQueue = []) (ho : s.outstanding = []) : s.storeLawful := by
  refine ⟨fun w _ => ⟨by simp [State.inUse, hp], by simp [ho]⟩, fun w => .inl (by simp [State.inUse, hp]), by simp [hq]⟩

/-- Settles O11: each update of an event or a beat keeps the store law (`storeLawful_keeps`); OPEN and a descriptor write meet an OFF
window, which owns nothing; and the end of INIT finds the outstanding table empty (R167). -/
theorem storeLawIsKept : Obligations.StoreLawIsKept := by
  intro s t hs hst
  rcases step_happens hst with ⟨rest, -, rfl⟩ | hh
  · exact State.storeLawful_of_empty rfl rfl rfl
  rcases hh.cases with hb | ⟨w, d, hoff, rfl⟩ | ⟨w, -, -, hdone, rfl⟩ | keeps
  · exact storeLawful_keeps.beats hb hs
  · exact State.storeLawful.updateOff (s := { s with pending := s.pending.tail }) hs hoff
  · refine storeLawful_keeps.ports _ _ (complete_keepsStore .openW _) (State.storeLawful.updateOff hs ?_)
    by_contra hno
    simp [State.openResult, hno] at hdone
  · rcases keeps _ storeLawful_keeps.toStoreKeeps hs with ht | ⟨u, -, hd, rfl⟩
    · exact ht
    · simp only [State.initDone, Bool.and_eq_true, List.isEmpty_iff] at hd
      exact State.storeLawful_of_empty rfl rfl hd.2

/-! ### Reset -/

/-- Settles O4: at reset every list is empty, and each window, tracker and the selector hold the values of their reset rules. -/
theorem resetStateIsLawful : Obligations.ResetStateIsLawful := by
  have windows : ∀ w, (State.reset.window w).lawful := fun w => State.reset_window w ▸ Window.cleared_lawful _
  have trackers : ∀ tr, (State.reset.tracker tr).lawful := fun tr => by
    rw [State.reset_tracker]
    simp [Tracker.lawful, Tracker.reset, Tracker.holdsLock]
  have reserve : State.reset.reserveKept := by
    unfold State.reserveKept
    decide
  have limits : State.reset.withinLimits := by
    unfold State.withinLimits
    decide
  have sources : State.reset.sourcesLawful := fun tr => by
    cases tr <;> simp [State.reset, Selector.reset, BeatLine.source]
  refine ⟨limits, ⟨by decide, by simp [State.reset, Notifier.reset]⟩, ⟨by simp [State.reset, Notifier.reset], by decide⟩,
    fun i => ?_, ?_, ?_, ?_, State.storeLawful_of_empty rfl rfl rfl, reserve, windows, trackers, ?_, sources, fun _ => rfl⟩
  · simp [State.placesOf, State.reset]
  · simp [State.portsAgree, State.downstream, State.reset]
  · simp [State.noAnswerWaits, State.reset]
  · simp [State.entriesUnique, State.reset]
  · simp [Selector.lawful, State.reset, Selector.reset]

end Sys2Proof.Machine
end

section
/-! SUPPORT. The management port: no event changes it, but for the end of INIT. -/

namespace Sys2Proof.Machine

variable (s : State)

@[simp] theorem State.closeEvent_port (d snt : Bool) (t : List Nat) : (s.closeEvent d snt t).port = s.port := by
  obtain ⟨-, -, -, -, -, -, h, -⟩ := s.closeEvent_outside d snt t
  exact h

@[simp] theorem classify_port (n : Nat) (r : Request) (tw : Option WindowId) (x : Bool) :
    (classify s n r tw x).state.port = s.port := by rw [classify_frame s n r tw x]

@[simp] theorem State.judgeNew_port (r : Request) : (s.judgeNew r).state.port = s.port := by
  unfold State.judgeNew
  split <;> simp

@[simp] theorem State.enter_port (r : Request) (x : Steered) : (s.enter r x).port = x.state.port := by
  unfold State.enter
  dsimp only
  split <;> rfl

@[simp] theorem State.takeRequest_port (r : Request) : (s.takeRequest r).port = s.port := by
  simp [State.takeRequest]

@[simp] theorem State.countTimeout_port (w : Option WindowId) : (s.countTimeout w).port = s.port := by
  cases w <;> rfl

@[simp] theorem State.timeout_port (h : Held) : (s.timeout h).port = s.port := by
  simp [State.timeout]

@[simp] theorem State.testOff_port (w : WindowId) : (s.testOff w).port = s.port := by
  unfold State.testOff
  split <;> rfl

@[simp] theorem State.closeTo_port (w : WindowId) (m : CloseMode) : (s.closeTo w m).port = s.port := by
  cases m <;> simp [State.closeTo]

@[simp] theorem State.drained_port (w : WindowId) (l : Line) : (s.drained w l).port = s.port := by
  simp [State.drained]

@[simp] theorem State.dropEntry_port (w : WindowId) (l : Line) : (s.dropEntry w l).port = s.port := by
  simp [State.dropEntry]

@[simp] theorem State.firstError_port (w : WindowId) (l : Line) : (s.firstError w l).port = s.port := by
  unfold State.firstError
  dsimp only
  split <;> simp

/-- Where INIT is not in progress its end test fails (R167). -/
theorem State.testInitEnd_notBusy {s : State} (h : s.port.busy = false) : s.testInitEnd = s := by
  simp [State.testInitEnd, State.initDone, h]

@[simp] theorem State.keepCapture_port (n : Nat) (a : MemAnswer) : (s.keepCapture n a).port = s.port := by
  cases a <;> rfl

theorem State.hostCompletion_port {s : State} (h : s.port.busy = false) (n : Nat) (a : MemAnswer) :
    (s.hostCompletion n a).port = s.port := by
  unfold State.hostCompletion
  split
  · rw [State.testInitEnd_notBusy (by simpa using h)]
    simp
  · rfl

theorem State.drainCompletion_port {s : State} (h : s.port.busy = false) (l : Line) (a : DrainAnswer) :
    (s.drainCompletion l a).port = s.port := by
  unfold State.drainCompletion
  split
  · dsimp only
    rw [if_neg (by simp [h])]
    split
    · simp
    · simp
    · split <;> simp
  · rfl

/-- The trackers, the generator and BEAT_NOW leave INIT as it is. -/
theorem State.Beats.busy {s t : State} (h : s.Beats t) : t.port.busy = s.port.busy := by
  induction h with
  | refl => rfl
  | beside _ hst _ ih =>
    obtain ⟨-, -, -, -, -, -, -, -, -, -, hb⟩ := State.sameStore_iff.mp hst
    exact hb.trans ih
  | @offer u c _ ih =>
    rw [← ih]
    rcases u.offer_cases c with ⟨e, -⟩ | ⟨e, -⟩ | ⟨-, -, -, e⟩ | ⟨-, -, -, -, e⟩ <;> rw [e] <;> simp

/-- The answers that INIT gives leave all but the in-flight list and the answers sent as they are (R83). -/
theorem State.answerHeld_fields :
    s.answerHeld = { s with inflight := s.answerHeld.inflight, answers := s.answerHeld.answers, holdQueue := [] } := by
  have keeps : ∀ (q : List Held) (t : State),
      q.foldl (fun t h => t.determine h.order h.request.initiator .error) t =
        { t with
          inflight := (q.foldl (fun t h => t.determine h.order h.request.initiator .error) t).inflight
          answers := (q.foldl (fun t h => t.determine h.order h.request.initiator .error) t).answers } := by
    intro q
    induction q with
    | nil => exact fun _ => rfl
    | cons h q ih => exact fun t => ih _
  exact keeps _ _

/-- The state while INIT is in progress, its windows and store frozen (R20). -/
def State.frozen (s t : State) : Prop :=
  t.port.busy = true ∧ t.holdQueue = [] ∧ t.pool = s.pool ∧ t.drainQueue = s.drainQueue ∧ t.windows = s.windows

/-- An end test of INIT at a frozen state: INIT ends, or the state stays frozen (R167). -/
theorem State.frozen.testInitEnd {s u : State} (h : s.frozen u) : s.frozen u.testInitEnd ∨ u.testInitEnd.port.busy = false := by
  unfold State.testInitEnd
  split
  · exact .inr rfl
  · exact .inl h

/-- While INIT is in progress the candidates' beats change no window (R87). -/
theorem State.Beats.frozen {s t : State} (h : s.Beats t) (hs : s.port.busy = true) (hq : s.holdQueue = []) : s.frozen t := by
  have beat : ∀ u : State, s.frozen u → s.frozen u.evalBeat := fun u hu => by
    rw [State.evalBeat_busy _ hu.1]
    exact hu
  induction h with
  | refl => exact ⟨hs, hq, rfl, rfl, rfl⟩
  | beside _ hst _ ih =>
    obtain ⟨hb, hh, hp, hd, hw⟩ := ih
    obtain ⟨ew, ep, -, -, eh, ed, -, -, -, -, eb⟩ := State.sameStore_iff.mp hst
    exact ⟨eb.trans hb, eh.trans hh, ep.trans hp, ed.trans hd, ew.trans hw⟩
  | @offer u c _ ih =>
    rcases u.offer_cases c with ⟨e, -⟩ | ⟨e, -⟩ | ⟨-, -, -, e⟩ | ⟨-, -, -, -, e⟩ <;> rw [e]
    · exact ih
    · exact ih
    · exact beat _ ih
    · exact beat _ ih

/-- While INIT is in progress and nothing is held, a happening ends INIT, writes the descriptor of an OFF window, or leaves windows and
store frozen (R20, R87, R121). -/
theorem State.Happens.frozen {s t : State} (h : s.Happens t) (hs : s.port.busy = true) (hq : s.holdQueue = []) :
    s.frozen t ∨ t.port.busy = false ∨
      ∃ w d, (s.window w).state = .off ∧ t = s.updWindow w fun u => { u with desc := d } := by
  have idleDrain : ∀ u : State, u.port.busy = true → u.drainIssue = u := fun u hu => by simp [State.drainIssue, hu]
  cases h with
  | aside hst =>
    obtain ⟨ew, ep, -, -, eh, ed, -, -, -, -, eb⟩ := State.sameStore_iff.mp hst
    exact .inl ⟨eb.trans hs, eh.trans hq, ep, ed, ew⟩
  | beats hb => exact .inl (hb.frozen hs hq)
  | descriptor w d hw => exact .inr (.inr ⟨w, d, hw, rfl⟩)
  | opened _ hb => simp [hs] at hb
  | closed _ _ hb => simp [hs] at hb
  | taken _ _ hb => simp [hs] at hb
  | timeout g hg => simp [hq] at hg
  | hostAnswer n a =>
    unfold State.hostCompletion
    split
    · dsimp only
      rw [idleDrain _ (by simpa using hs)]
      refine (State.frozen.testInitEnd ?_).imp_right .inl
      cases a <;> exact ⟨hs, hq, rfl, rfl, rfl⟩
    · exact .inl ⟨hs, hq, rfl, rfl, rfl⟩
  | drainAnswer l a =>
    unfold State.drainCompletion
    split
    · dsimp only
      rw [if_pos hs]
      refine (State.frozen.testInitEnd ?_).imp_right .inl
      exact ⟨hs, hq, rfl, rfl, rfl⟩
    · exact .inl ⟨hs, hq, rfl, rfl, rfl⟩
  | init hb => simp [hs] at hb
  | initEnd => exact (State.frozen.testInitEnd ⟨hs, hq, rfl, rfl, rfl⟩).imp_right .inl

/-- Where INIT is not in progress only the taking of INIT begins it, and that empties the hold queue (R83, R165). -/
theorem State.Happens.initHoldsNothing {s t : State} (h : s.Happens t) (hs : s.port.busy = false) : t.initHoldsNothing := by
  have idle : ∀ {u : State}, u.port = s.port → u.initHoldsNothing := fun hu hb => by simp [hu, hs] at hb
  cases h with
  | aside hst =>
    obtain ⟨-, -, -, -, -, -, -, -, -, -, hb⟩ := State.sameStore_iff.mp hst
    exact fun h => by simp [hb, hs] at h
  | beats hb => exact fun h => by simp [hb.busy, hs] at h
  | descriptor => exact idle rfl
  | opened => exact fun h => by simp [complete, hs] at h
  | closed => exact fun h => by simp [complete, hs] at h
  | taken r hst =>
    obtain ⟨-, -, -, -, -, -, -, -, -, -, hb⟩ := State.sameStore_iff.mp hst
    exact fun h => by simp [hb, hs] at h
  | timeout g => exact idle (s.timeout_port g)
  | hostAnswer n a => exact idle (State.hostCompletion_port hs n a)
  | drainAnswer l a => exact idle (State.drainCompletion_port hs l a)
  | init =>
    intro _
    unfold State.takeInit
    rw [State.answerHeld_fields]
    unfold State.testInitEnd
    split <;> rfl
  | initEnd => exact idle (by rw [State.testInitEnd_notBusy hs])

/-- Settles O21: while INIT is in progress a step leaves windows and store frozen, but for the descriptor of an OFF window; a step that finds
it not in progress begins it only by emptying the hold queue. -/
theorem initFreezesTheStore : Obligations.InitFreezesTheStore := by
  intro s t hs hst
  rcases step_happens hst with ⟨rest, -, rfl⟩ | hh
  · exact ⟨fun _ => rfl, fun _ hb => absurd hb Bool.false_ne_true⟩
  by_cases hb : s.port.busy = true
  · rcases hh.frozen hb (hs hb) with ⟨-, hq, hp, hd, hw⟩ | ht | ⟨w, d, hw, rfl⟩
    · exact ⟨fun _ => hq, fun _ _ => ⟨hp, hd, fun w => by rw [State.window_congr hw w]; exact ⟨rfl, fun _ => rfl⟩⟩⟩
    · exact ⟨fun h => by simp [ht] at h, fun _ h => by simp [ht] at h⟩
    · refine ⟨fun _ => hs hb, fun _ _ => ⟨rfl, rfl, fun u => ?_⟩⟩
      rw [State.updWindow_window]
      split
      · next e => subst e; exact ⟨rfl, fun ho => absurd hw ho⟩
      · exact ⟨rfl, fun _ => rfl⟩
  · exact ⟨hh.initHoldsNothing (s := { s with pending := s.pending.tail }) (by simpa using hb), fun h => absurd h hb⟩

end Sys2Proof.Machine
end

section
/-! What a delivered beat does to one window, and the commits that a commit count counts (R10, R86, R92). -/

namespace Sys2Proof.Machine

variable {s : State}

/-! ### The windows a beat evaluates, one by one -/

/-- The entries that a window owns, in the order of allocation. -/
def State.ownedBy (s : State) (w : WindowId) : List Entry := s.pool.filter fun e => e.window == w

theorem State.committedSet_eq (s : State) (w : WindowId) : s.committedSet w = (s.ownedBy w).filter (!·.isPending) := by
  simp [State.committedSet, State.ownedBy, List.filter_filter, Bool.and_comm]

/-- From `s` to `t` the record of window `w` and its entries are the same. -/
def State.sameAt (s t : State) (w : WindowId) : Prop := t.window w = s.window w ∧ t.ownedBy w = s.ownedBy w

theorem State.sameAt.trans {t u : State} {w : WindowId} (h : s.sameAt t w) (h' : t.sameAt u w) : s.sameAt u w :=
  ⟨h'.1.trans h.1, h'.2.trans h.2⟩

theorem State.sameAt.committedSet {t : State} {w : WindowId} (h : s.sameAt t w) : t.committedSet w = s.committedSet w := by
  rw [State.committedSet_eq, State.committedSet_eq, h.2]

theorem State.sameAt_updWindow {w u : WindowId} (h : w ≠ u) (f : Window → Window) : s.sameAt (s.updWindow u f) w :=
  ⟨State.updWindow_other s f h, rfl⟩

/-- A free of entries of window `u` leaves the others' entries. -/
theorem State.sameAt_freeEntries {w u : WindowId} (h : w ≠ u) (p : Entry → Bool) (hp : ∀ e, p e = true → e.window = u) :
    s.sameAt (s.freeEntries p) w := by
  refine ⟨by simp, ?_⟩
  unfold State.ownedBy
  rw [State.freeEntries_pool, List.filter_filter]
  refine List.filter_congr fun e _ => ?_
  by_cases hw : e.window = w
  · have : p e = false := by
      by_contra hn
      exact h (hw.symm.trans (hp e (by simpa using hn)))
    simp [this]
  · simp [hw]

/-- A commit of window `u` leaves the others' entries. -/
theorem State.sameAt_commitFrame {w u : WindowId} (h : w ≠ u) (b : BitVec 32) : s.sameAt (s.commitFrame u b) w := by
  obtain ⟨-, -, hpool, -⟩ := s.commitFrame_keys u b w
  refine ⟨by rw [State.commitFrame_window, State.updWindow_other _ _ h], ?_⟩
  unfold State.ownedBy
  rw [hpool, List.filter_map]
  have hf : ∀ l : List Entry, (∀ e ∈ l, e.window = w) →
      l.map (fun e => if e.window == u && e.isPending then e.commit else e) = l := by
    intro l hl
    refine (List.map_congr_left fun e he => ?_).trans (List.map_id l)
    simp [hl e he, h]
  have hp : ((fun e : Entry => e.window == w) ∘ fun e => if e.window == u && e.isPending then e.commit else e) =
      fun e => e.window == w := by
    funext e
    simp only [Function.comp_apply]
    split <;> rfl
  rw [hp]
  exact hf _ fun e he => by simpa using (List.mem_filter.mp he).2

/-- What the evaluation of window `w` can do to the state (R86, R89 to R99). -/
theorem BeatRun.evalWindow_cases (b : BitVec 32) (x : BeatRun) (w : WindowId) :
    let t := (BeatRun.evalWindow b x w).state
    let y := x.state.updWindow w Window.countDown
    (t = x.state ∨ t = y ∨ t = y.updWindow w Window.endDue ∨ t = y.slip w ∨ t = y.lateDiscard w ∨ t = y.lateCarry w) ∨
      ∃ z, (z = x.state ∨ z = y) ∧ z.committedSet w = [] ∧ t = z.commitFrame w b := by
  unfold BeatRun.evalWindow
  dsimp only
  split
  · split
    · unfold State.judge
      split
      · exact .inl (.inr (.inr (.inl rfl)))
      · split
        · split
          · next hc => exact .inr ⟨_, .inr rfl, by simpa using hc, rfl⟩
          · exact .inl (.inr (.inr (.inr (.inl rfl))))
        · split
          · exact .inl (.inr (.inr (.inr (.inr (.inl rfl)))))
          · exact .inl (.inr (.inr (.inr (.inr (.inr rfl)))))
    · exact .inl (.inr (.inl rfl))
  · split
    · exact .inl (.inl rfl)
    · split
      · next hc => exact .inr ⟨_, .inl rfl, by simpa using hc, rfl⟩
      · split
        · exact .inl (.inr (.inr (.inr (.inl rfl))))
        · exact .inl (.inr (.inl rfl))
  · exact .inl (.inl rfl)

/-- The evaluation of a window leaves the other windows and their entries (R86). -/
theorem BeatRun.evalWindow_other (b : BitVec 32) (x : BeatRun) {w u : WindowId} (h : w ≠ u) :
    x.state.sameAt (BeatRun.evalWindow b x u).state w := by
  have y : x.state.sameAt (x.state.updWindow u Window.countDown) w := State.sameAt_updWindow h _
  have upd : ∀ {t : State} (f : Window → Window) k l i, x.state.sameAt t w →
      x.state.sameAt ((t.updWindow u f).notify k l i none) w := fun f _ _ _ ht => ht.trans (State.sameAt_updWindow h f)
  rcases BeatRun.evalWindow_cases b x u with (e | e | e | e | e | e) | ⟨z, hz, -, e⟩ <;> rw [e]
  · exact ⟨rfl, rfl⟩
  · exact y
  · exact y.trans (State.sameAt_updWindow h _)
  · unfold State.slip
    split
    · exact y
    · exact upd _ _ _ _ y
  · refine upd _ _ _ _ (y.trans (State.sameAt_freeEntries h _ fun e he => ?_))
    simp only [Bool.and_eq_true, beq_iff_eq] at he
    exact he.1
  · unfold State.lateCarry
    split
    · exact y
    · exact upd _ _ _ _ y
  · rcases hz with rfl | rfl
    · exact State.sameAt_commitFrame h b
    · exact y.trans (State.sameAt_commitFrame h b)

/-- From `s` to `t` window `w` has the same commit count, or has committed once at the beat `b`, with its committed set empty (R92). -/
def State.commitsAt (s t : State) (w : WindowId) (b : BitVec 32) : Prop :=
  (t.window w).commitCount = (s.window w).commitCount ∨
    ((t.window w).commitCount = (s.window w).commitCount + 1 ∧ (t.window w).lastCommitBeat = b ∧ s.committedSet w = [])

theorem BeatRun.evalWindow_commits (b : BitVec 32) (x : BeatRun) (w : WindowId) :
    x.state.commitsAt (BeatRun.evalWindow b x w).state w b := by
  have hy : (x.state.window w).countDown.commitCount = (x.state.window w).commitCount := by
    unfold Window.countDown
    split <;> rfl
  have hw : (x.state.updWindow w Window.countDown).window w = (x.state.window w).countDown := State.updWindow_self _ w _
  rcases BeatRun.evalWindow_cases b x w with (e | e | e | e | e | e) | ⟨z, hz, hc, e⟩ <;> rw [e]
  · exact .inl rfl
  · exact .inl (by rw [hw, hy])
  · exact .inl (by rw [State.updWindow_self, hw]; exact hy)
  · refine .inl ?_
    unfold State.slip
    split
    · rw [hw, hy]
    · rw [State.notify_window, State.updWindow_self, hw]
      exact hy
  · refine .inl ?_
    unfold State.lateDiscard
    rw [State.notify_window, State.updWindow_self, State.freeEntries_window, hw]
    exact hy
  · refine .inl ?_
    unfold State.lateCarry
    split
    · rw [hw, hy]
    · rw [State.notify_window, State.updWindow_self, hw]
      exact hy
  · refine .inr ?_
    rw [State.commitFrame_window, State.updWindow_self]
    rcases hz with rfl | rfl
    · exact ⟨rfl, rfl, hc⟩
    · exact ⟨by rw [hw]; exact congrArg (· + 1) hy, rfl, hc⟩

/-- The evaluation of windows other than `w` leaves `w` and its entries. -/
theorem BeatRun.foldl_other (b : BitVec 32) {w : WindowId} (l : List WindowId) (hl : w ∉ l) (x : BeatRun) :
    x.state.sameAt (l.foldl (BeatRun.evalWindow b) x).state w := by
  induction l generalizing x with
  | nil => exact ⟨rfl, rfl⟩
  | cons u l ih =>
    simp only [List.mem_cons, not_or] at hl
    exact (BeatRun.evalWindow_other b x hl.1).trans (ih hl.2 _)

/-- Of the windows that a beat evaluates once each, `w` commits at most once. -/
theorem BeatRun.foldl_commits (b : BitVec 32) (w : WindowId) (l : List WindowId) (hl : l.Nodup) (x : BeatRun) :
    x.state.commitsAt (l.foldl (BeatRun.evalWindow b) x).state w b := by
  induction l generalizing x with
  | nil => exact .inl rfl
  | cons u l ih =>
    obtain ⟨hu, hl⟩ := List.nodup_cons.mp hl
    by_cases e : w = u
    · subst e
      obtain ⟨hw, -⟩ := BeatRun.foldl_other b l hu (BeatRun.evalWindow b x w)
      unfold State.commitsAt
      rw [List.foldl_cons, hw]
      exact BeatRun.evalWindow_commits b x w
    · have same := BeatRun.evalWindow_other b x e
      have := ih hl (BeatRun.evalWindow b x u)
      unfold State.commitsAt at this
      rwa [same.1, same.committedSet] at this

/-- The close of the beat's event commits nothing. -/
theorem State.commitsAt.closeEvent {u : State} {w : WindowId} {b : BitVec 32} (h : s.commitsAt u w b) (d snt : Bool)
    (t : List Nat) : s.commitsAt (u.closeEvent d snt t) w b := by
  have hc := (u.closeEvent_window d snt t w).1
  unfold State.commitsAt
  rw [hc]
  exact h

/-- At a delivered beat a window commits at most once, at the beat's number (R86, R92). -/
theorem State.evalBeat_commits (s : State) (w : WindowId) : s.commitsAt s.evalBeat w s.sel.beatNumber := by
  unfold State.evalBeat
  split
  · exact .inl rfl
  · exact (BeatRun.foldl_commits _ w windowIds (List.nodup_finRange 16) ⟨s, [], false, false⟩).closeEvent _ _ _

/-! ### The beats of one step -/

/-- After the first delivered beat of a step the minimum gap shuts out a second (R144). -/
theorem State.gapPasses_again {x : Selector} {t : Time} (h : x.lastDelivered = some t) (hg : 10 ≤ x.gap.toNat) :
    x.gapPasses t = false := by
  unfold Selector.gapPasses
  rw [h]
  exact decide_eq_false (Nat.not_le.mpr (Nat.lt_add_of_pos_right (Nat.lt_of_lt_of_le (by decide) hg)))

/-- In a step's beats: none is delivered and no window changes; or one is, and a window commits at most once, at it. -/
theorem State.Beats.commits {t : State} (h : s.Beats t) (hg : 10 ≤ s.sel.gap.toNat) (w : WindowId) :
    t.timeBase = s.timeBase ∧ t.sel.gap = s.sel.gap ∧
      ((t.windows = s.windows ∧ t.pool = s.pool ∧ t.sel.beatNumber = s.sel.beatNumber) ∨
        (t.sel.beatNumber = s.sel.beatNumber + 1 ∧ t.sel.lastDelivered = some s.timeBase ∧
          s.commitsAt t w t.sel.beatNumber)) := by
  induction h with
  | refl => exact ⟨rfl, rfl, .inl ⟨rfl, rfl, rfl⟩⟩
  | @beside u v _ hst hbt ih =>
    obtain ⟨htime, hgap, ih⟩ := ih
    obtain ⟨ew, ep, -⟩ := State.sameStore_iff.mp hst
    obtain ⟨e1, e2, e3, e4⟩ := hbt
    refine ⟨e1.trans htime, e4.trans hgap, ?_⟩
    rw [e2, e3]
    unfold State.commitsAt
    rw [State.window_congr ew w]
    exact ih.imp_left fun ⟨hw, hp, hn⟩ => ⟨ew.trans hw, ep.trans hp, hn⟩
  | @offer u c _ ih =>
    obtain ⟨htime, hgap, ih⟩ := ih
    have one : ∀ v : State, v.timeBase = u.timeBase → v.windows = u.windows → v.pool = u.pool → v.sel.gap = u.sel.gap →
        v.sel.beatNumber = u.sel.beatNumber + 1 → v.sel.lastDelivered = some u.timeBase →
        u.sel.gapPasses u.timeBase = true →
        v.evalBeat.timeBase = s.timeBase ∧ v.evalBeat.sel.gap = s.sel.gap ∧
          ((v.evalBeat.windows = s.windows ∧ v.evalBeat.pool = s.pool ∧ v.evalBeat.sel.beatNumber = s.sel.beatNumber) ∨
            (v.evalBeat.sel.beatNumber = s.sel.beatNumber + 1 ∧ v.evalBeat.sel.lastDelivered = some s.timeBase ∧
              s.commitsAt v.evalBeat w v.evalBeat.sel.beatNumber)) := by
      intro v h1 h2 h3 h4 h5 h6 hpass
      rcases ih with ⟨hw, hp, hn⟩ | ⟨-, hd, -⟩
      · rw [State.evalBeat_sel, State.evalBeat_timeBase]
        refine ⟨h1.trans htime, h4.trans hgap, .inr ⟨by rw [h5, hn], by rw [h6, htime], ?_⟩⟩
        have hcommit := v.evalBeat_commits w
        have hset : v.committedSet w = s.committedSet w := by unfold State.committedSet; rw [h3, hp]
        unfold State.commitsAt at hcommit ⊢
        rwa [State.window_congr (h2.trans hw) w, hset] at hcommit
      · rw [← htime] at hd
        simp [State.gapPasses_again hd (hgap ▸ hg)] at hpass
    rcases u.offer_cases c with ⟨e, -⟩ | ⟨e, -⟩ | ⟨-, -, hpass, e⟩ | ⟨-, -, -, hpass, e⟩ <;> rw [e]
    · exact ⟨htime, hgap, ih⟩
    · exact ⟨htime, hgap, ih⟩
    · exact one _ rfl rfl rfl rfl rfl rfl hpass
    · exact one _ rfl rfl rfl rfl rfl rfl hpass

theorem Window.Move.commitCount {v v' : Window} (m : v.Move v') : v'.commitCount = v.commitCount := by
  cases m with
  | steer _ hfields => rw [hfields]
  | fault => unfold Window.faulted; split <;> rfl
  | _ => rfl

/-- Settles O17: outside a beat the moves of a record leave the commit count; a step delivers at most one beat, at which a window commits at
most once; and OPEN, the end of INIT and reset give new records. -/
theorem commitCountsCountCommits : Obligations.CommitCountsCountCommits := by
  intro s t w hs hst
  obtain ⟨-, hgap, -⟩ := hs
  rcases step_happens hst with ⟨rest, hp, rfl⟩ | hh
  · have hw := State.reset_window w
    exact .inr (.inr ⟨congrArg Window.commitCount hw, congrArg Window.lastCommitBeat hw, .inr (.inr ⟨hw, rest, hp⟩)⟩)
  rcases hh.cases with hb | ⟨u, d, -, rfl⟩ | ⟨u, -, -, hdone, rfl⟩ | keeps
  · obtain ⟨-, -, ⟨hw, -, -⟩ | ⟨hn, hd, hc⟩⟩ := hb.commits hgap w
    · exact .inl (by rw [State.window_congr hw w]; rfl)
    · rcases hc with hc | ⟨hc, hl, he⟩
      · exact .inl hc
      · exact .inr (.inl ⟨hc, hl, hn, hd, he⟩)
  · refine .inl ?_
    rw [State.updWindow_window]
    split
    · next e => subst e; rfl
    · rfl
  · by_cases e : w = u
    · subst e
      have hw : (State.updWindow { s with pending := s.pending.tail } w Window.opened).window w = (s.window w).opened :=
        State.updWindow_self _ w _
      exact .inr (.inr ⟨congrArg Window.commitCount hw, congrArg Window.lastCommitBeat hw, .inl ⟨hw, hdone, rfl⟩⟩)
    · exact .inl (congrArg Window.commitCount (State.updWindow_other _ _ e))
  · have hQ : ∀ v v' : Window, v.Move v' → v.commitCount = (s.window w).commitCount ∧ v.desc = (s.window w).desc →
        v'.commitCount = (s.window w).commitCount ∧ v'.desc = (s.window w).desc :=
      fun v v' m h => ⟨m.commitCount.trans h.1, m.desc.trans h.2⟩
    rcases keeps _ (StoreKeeps.ofWindow w hQ) ⟨rfl, rfl⟩ with ht | ⟨u, hu, -, rfl⟩
    · exact .inl ht.1
    · have hw : u.endInit.window w = Window.cleared (s.window w).desc := by rw [u.endInit_window, hu.2]
      exact .inr (.inr ⟨congrArg Window.commitCount hw, congrArg Window.lastCommitBeat hw, .inr (.inl ⟨hw, rfl, rfl, rfl⟩)⟩)

end Sys2Proof.Machine
end

section
/-! OPEN's checks (R13, R14) and the writes of a descriptor (R3, R4, R159). -/

namespace Sys2Proof.Machine

variable {s : State}

/-! ### OPEN -/

theorem State.updWindow_eq_self {w : WindowId} {f : Window → Window} (h : f (s.window w) = s.window w) : s.updWindow w f = s := by
  have hs : s.windows.set w (f s.windows[w]) = s.windows := by
    rw [show f s.windows[w] = s.windows[w] from h]
    simp
  unfold State.updWindow
  rw [hs]

/-- A command of the slot, taken while INIT is not in progress (R163). -/
theorem State.command_free (h : s.port.busy = false) (c : CommandName) : s.command c = s.takeCommand c :=
  if_neg (by simp [h])

theorem Descriptor.inRange_iff {d : Descriptor} :
    d.inRange = true ↔ 1 ≤ d.size.toNat ∧ d.size.toNat ≤ 4096 ∧ 1 ≤ d.quota.toNat ∧ d.quota.toNat ≤ 512 ∧
      d.reserve.toNat ≤ d.quota.toNat ∧ (d.readiness = .count → 1 ≤ d.readyCount.toNat) := by
  simp only [Descriptor.inRange, Bool.and_eq_true, decide_eq_true_eq, Bool.or_eq_true, bne_iff_ne, and_assoc, imp_iff_not_or,
    ne_eq]

theorem Descriptor.fits_iff {d : Descriptor} : d.fits = true ↔ ¬ 2 ^ 48 < d.base.toNat * 64 + d.size.toNat * 64 := by
  simp [Descriptor.fits]

/-- Check 6 of R13 fails where an open window shares a line. -/
theorem State.rangeFree_iff {w : WindowId} :
    s.rangeFree w = true ↔ ¬ ∃ u, (s.window u).state ≠ .off ∧
      (s.window w).desc.base.toNat < (s.window u).desc.base.toNat + (s.window u).desc.size.toNat ∧
        (s.window u).desc.base.toNat < (s.window w).desc.base.toNat + (s.window w).desc.size.toNat := by
  simp only [State.rangeFree, windowIds, Window.overlaps, List.all_eq_true, List.mem_finRange, forall_const, not_exists,
    Bool.or_eq_true, beq_iff_eq, Bool.not_eq_true', Bool.and_eq_false_iff, decide_eq_false_iff_not, not_and, ne_eq]
  exact forall_congr' fun u => ⟨fun h hno => (h.resolve_left hno).elim (fun a b => absurd b a) fun a _ => a, fun h => by
    by_cases ho : (s.window u).state = .off
    · exact .inl ho
    · exact .inr (imp_iff_not_or.mp (h ho))⟩

theorem State.roomFor_iff {w : WindowId} :
    s.roomFor w = true ↔ ¬ s.freeCount < s.totalReserve + (s.window w).desc.reserve.toNat := by
  simp [State.roomFor]

/-- The checks of R13 in their order, in the spec's terms. -/
theorem State.openResult_eq (s : State) (w : WindowId) :
    s.openResult w =
      (if (s.window w).state ≠ .off then .refusedState
       else if ¬ (1 ≤ (s.window w).desc.size.toNat ∧ (s.window w).desc.size.toNat ≤ 4096 ∧
           1 ≤ (s.window w).desc.quota.toNat ∧ (s.window w).desc.quota.toNat ≤ 512 ∧
           (s.window w).desc.reserve.toNat ≤ (s.window w).desc.quota.toNat ∧
           ((s.window w).desc.readiness = .count → 1 ≤ (s.window w).desc.readyCount.toNat)) then .refusedConfig
       else if (s.window w).desc.producers = 0 then .refusedConfig
       else if (s.window w).desc.readiness = .mark ∧ (s.window w).desc.tally = false then .refusedConfig
       else if 2 ^ 48 < (s.window w).desc.base.toNat * 64 + (s.window w).desc.size.toNat * 64 then .refusedConfig
       else if ∃ u, (s.window u).state ≠ .off ∧
           (s.window w).desc.base.toNat < (s.window u).desc.base.toNat + (s.window u).desc.size.toNat ∧
             (s.window u).desc.base.toNat < (s.window w).desc.base.toNat + (s.window w).desc.size.toNat then .refusedConfig
       else if s.freeCount < s.totalReserve + (s.window w).desc.reserve.toNat then .refusedRoom
       else .done) := by
  have not_of : ∀ {b : Bool} {p : Prop}, (b = true ↔ ¬ p) → ((!b) = true ↔ p) := fun {b p} h => by
    cases b
    · exact ⟨fun _ => Classical.not_not.mp fun hp => Bool.false_ne_true (h.mpr hp), fun _ => rfl⟩
    · exact ⟨fun hb => absurd hb (by decide), fun hp => absurd hp (h.mp rfl)⟩
  unfold State.openResult
  refine if_congr bne_iff_ne rfl (if_congr (not_of (Descriptor.inRange_iff.trans Classical.not_not.symm)) rfl
    (if_congr beq_iff_eq rfl (if_congr (by simp) rfl (if_congr (not_of Descriptor.fits_iff) rfl
      (if_congr (not_of State.rangeFree_iff) rfl (if_congr (not_of State.roomFor_iff) rfl rfl))))))

/-- Settles O47: the checks by `State.openResult_eq`; a window that opens takes the record of R9's column (R14). -/
theorem openMakesItsChecks : Obligations.OpenMakesItsChecks := by
  rintro s w v hb hw rfl c hc
  replace hc : c = s.openResult w := hc.trans (s.openResult_eq w).symm
  show Host.Outcome.next (s.command .openW) = _
  rw [State.command_free hb]
  unfold State.takeCommand State.openWindow complete
  dsimp only
  rw [hw, ← hc]
  by_cases hd : c = .done
  · simp only [if_pos hd]
    rfl
  · simp only [if_neg hd]
    rw [State.updWindow_eq_self rfl]

/-! ### The words of a descriptor -/

/-- The bits that the fields of a descriptor word occupy (R159). -/
def wordMask : Fin 6 → Word
  | 0 => 0xFFFFFFC0
  | 1 => 0x0000FFFF
  | 2 => 0x00371FFF
  | 3 => 0x0037FFFF
  | 4 => 0x03FF03FF
  | 5 => 0x0000FFFF

/-- A field written from its place in a word reads back there, the rest of the word masked off. -/
theorem field_extractLsb' (v : Word) (lo len : Nat) :
    field (v.extractLsb' lo len).toNat lo = v &&& field (BitVec.allOnes len).toNat lo := by
  refine BitVec.eq_of_getLsbD_eq fun i hi => ?_
  simp only [field, BitVec.ofNat_toNat, BitVec.getLsbD_and, BitVec.getLsbD_shiftLeft, BitVec.getLsbD_setWidth,
    BitVec.getLsbD_extractLsb', BitVec.getLsbD_allOnes, hi, decide_true, Bool.true_and]
  by_cases hlo : i < lo
  · simp [hlo]
  · have hin : i - lo < 32 := by omega
    have hadd : lo + (i - lo) = i := by omega
    simp [hlo, hin, hadd, Bool.and_comm]

theorem flag_getLsbD (v : Word) (lo : Nat) : flag (v.getLsbD lo) lo = field (v.extractLsb' lo 1).toNat lo := by
  have h : (v.extractLsb' lo 1).toNat = (v.getLsbD lo).toNat := by
    rw [← BitVec.toNat_ofBool]
    refine congrArg BitVec.toNat (BitVec.eq_of_getLsbD_eq fun i hi => ?_)
    obtain rfl : i = 0 := by omega
    simp
  rw [h, flag]

theorem readinessOf_some {n : Nat} {m : Readiness} (h : readinessOf n = some m) : m.code = n := by
  unfold readinessOf at h
  split at h <;> cases h <;> rfl

theorem exhaustionOf_some {n : Nat} {p : ExhaustionPolicy} (h : exhaustionOf n = some p) : p.code = n := by
  unfold exhaustionOf at h
  split at h <;> cases h <;> rfl

theorem lateOf_code (b : Bool) : (if b then LatePolicy.discard else .carry).code = b.toNat := by cases b <;> rfl

/-- A mode field takes no code but 3 amiss (R159). -/
theorem readinessOf_eq_none {v : Word} : readinessOf (bitsOf v 20 2) = none ↔ v.extractLsb' 20 2 = 3 := by
  unfold bitsOf
  generalize v.extractLsb' 20 2 = x
  revert x
  decide

theorem exhaustionOf_eq_none {v : Word} : exhaustionOf (bitsOf v 17 2) = none ↔ v.extractLsb' 17 2 = 3 := by
  unfold bitsOf
  generalize v.extractLsb' 17 2 = x
  revert x
  decide

theorem Descriptor.withWord_eq_none {d : Descriptor} {v : Word} {i : Fin 6} :
    d.withWord v i = none ↔ (i = 2 ∧ v.extractLsb' 20 2 = 3) ∨ (i = 3 ∧ v.extractLsb' 17 2 = 3) := by
  rw [← readinessOf_eq_none, ← exhaustionOf_eq_none]
  match i with
  | 0 | 1 | 4 | 5 => simp [Descriptor.withWord]
  | 2 | 3 => simp [Descriptor.withWord]

/-- The low part of the base, as its two words divide it. -/
theorem append_toNat_mod (a : BitVec 16) (b : BitVec 26) : (a ++ b).toNat % 2 ^ 26 = b.toNat := by
  rw [BitVec.toNat_append, Nat.shiftLeft_eq, Nat.mul_comm, ← Nat.two_pow_add_eq_or_of_lt b.isLt]
  have := b.isLt
  omega

theorem append_toNat_div (a : BitVec 16) (b : BitVec 26) : (a ++ b).toNat / 2 ^ 26 = a.toNat := by
  rw [BitVec.toNat_append, Nat.shiftLeft_eq, Nat.mul_comm, ← Nat.two_pow_add_eq_or_of_lt b.isLt]
  have := b.isLt
  omega

theorem extractLsb'_toNat_div (b : Line) : (b.extractLsb' 26 16).toNat = b.toNat / 2 ^ 26 := by
  have := b.isLt
  rw [BitVec.extractLsb'_toNat, Nat.shiftRight_eq_div_pow]
  omega

theorem extractLsb'_toNat_mod (b : Line) : (b.extractLsb' 0 26).toNat = b.toNat % 2 ^ 26 := by
  rw [BitVec.extractLsb'_toNat, Nat.shiftRight_zero]

/-- A written word reads back in every bit that a field occupies, and the other words stay (R159). -/
theorem Descriptor.withWord_word {d e : Descriptor} {v : Word} {i : Fin 6} (h : d.withWord v i = some e) :
    e.word i = v &&& wordMask i ∧ ∀ j, j ≠ i → e.word j = d.word j := by
  match i with
  | 0 =>
    obtain rfl := Option.some.inj h
    refine ⟨?_, fun j hj => ?_⟩
    · simp only [Descriptor.word, append_toNat_mod]
      exact field_extractLsb' v 6 26
    · match j with
      | 0 => exact absurd rfl hj
      | 1 => simp only [Descriptor.word, append_toNat_div, extractLsb'_toNat_div]
      | 2 | 3 | 4 | 5 => rfl
  | 1 =>
    obtain rfl := Option.some.inj h
    refine ⟨?_, fun j hj => ?_⟩
    · simp only [Descriptor.word, append_toNat_div]
      exact field_extractLsb' v 0 16
    · match j with
      | 0 => simp only [Descriptor.word, append_toNat_mod, extractLsb'_toNat_mod]
      | 1 => exact absurd rfl hj
      | 2 | 3 | 4 | 5 => rfl
  | 2 =>
    obtain ⟨m, hm, rfl⟩ := Option.map_eq_some_iff.mp h
    refine ⟨?_, fun j hj => ?_⟩
    · simp only [Descriptor.word, readinessOf_some hm, bitsOf, field_extractLsb', ← BitVec.and_or_distrib_left]
      rfl
    · match j with
      | 2 => exact absurd rfl hj
      | 0 | 1 | 3 | 4 | 5 => rfl
  | 3 =>
    obtain ⟨p, hp, rfl⟩ := Option.map_eq_some_iff.mp h
    refine ⟨?_, fun j hj => ?_⟩
    · have hlate : field (v.getLsbD 16).toNat 16 = field (v.extractLsb' 16 1).toNat 16 := flag_getLsbD v 16
      simp only [Descriptor.word, exhaustionOf_some hp, bitsOf, lateOf_code, hlate, flag_getLsbD, field_extractLsb',
        ← BitVec.and_or_distrib_left]
      rfl
    · match j with
      | 3 => exact absurd rfl hj
      | 0 | 1 | 2 | 4 | 5 => rfl
  | 4 =>
    obtain rfl := Option.some.inj h
    refine ⟨?_, fun j hj => ?_⟩
    · simp only [Descriptor.word, field_extractLsb', ← BitVec.and_or_distrib_left]
      rfl
    · match j with
      | 4 => exact absurd rfl hj
      | 0 | 1 | 2 | 3 | 5 => rfl
  | 5 =>
    obtain rfl := Option.some.inj h
    refine ⟨field_extractLsb' v 0 16, fun j hj => ?_⟩
    match j with
    | 5 => exact absurd rfl hj
    | 0 | 1 | 2 | 3 | 4 => rfl

/-- Settles O53: the write is judged as the word it carries, and taken exactly where the window is OFF and no mode field would take
code 3 (R4, R159). -/
theorem descriptorWrites : Obligations.DescriptorWrites := by
  intro s w i v lanes
  have judged : exec (.descriptorWrite w i ⟨v, 0xF⟩) s = .next (s.writeDescriptor w i v) := by
    show Host.Outcome.next (s.writeDescriptor w i (s.mergeWrite (.descriptor w i) ⟨v, 0xF⟩)) = _
    rw [s.mergeWrite_full]
  refine ⟨fun ho => congrArg Host.Outcome.next (if_neg ho), fun ho => ⟨fun hbad => ?_, fun hgood => ?_⟩⟩
  · rw [judged, State.writeDescriptor, if_pos ho, Descriptor.withWord_eq_none.mpr hbad]
    rfl
  · obtain ⟨d, hd⟩ := Option.ne_none_iff_exists'.mp (mt Descriptor.withWord_eq_none.mp hgood)
    obtain ⟨hword, hothers⟩ := Descriptor.withWord_word hd
    refine ⟨d, by rw [judged, State.writeDescriptor, if_pos ho, hd], hword.trans ?_, hothers⟩
    match i with
    | 0 | 1 | 2 | 3 | 4 | 5 => rfl

end Sys2Proof.Machine
end

section
/-! SUPPORT. The take of a request (R45 to R49): from its classification to the state after it. -/

namespace Sys2Proof.Machine

variable {s : State} {r : Request}

/-- Where the bus presents a request alone and the take conditions hold, the request is taken (R45). -/
theorem exec_hostSideRequest (h : s.takesNext) : exec (.hostSideRequest r) s = .next (s.takeRequest r) := by
  obtain ⟨hbus, htake⟩ := h
  have empty : s.onBus [] = s := by rw [← hbus]; rfl
  have hc : s.canTake = true := State.takesNext_iff_canTake.mp ⟨rfl, htake⟩
  have := exec_hostSideRequest_takes (r := r) hc
  rwa [← State.takeRequest_onBus, empty] at this

/-- What the take of a request makes of its classification (R46, R47). -/
def State.finishTake (s : State) (r : Request) (x : Steered) : State :=
  (s.enter r x).closeEvent false x.verdict.sends (x.wakes (s.enter r x))

theorem State.noneHeldOf.olderHeld {i : Initiator} (h : s.noneHeldOf i) (n : Nat) : s.olderHeld i n = false := by
  simp only [State.olderHeld, List.any_eq_false, Bool.and_eq_true, beq_iff_eq, not_and]
  exact fun g hg e => absurd e (h g hg)

/-- A well-formed request in a window, with no older one of its initiator held, is taken as steering gives (R49, R50). -/
theorem exec_inWindow {w : WindowId} (h : s.takesNext) (hm : r.malformed = false) (hn : s.noneHeldOf r.initiator)
    (hw : s.windowOf r.line = some w) :
    exec (.hostSideRequest r) s = .next (s.finishTake r (steerInWindow s w r false)) := by
  rw [exec_hostSideRequest h, State.takeRequest, State.judgeNew, if_neg (by simp [hm]), classify, hn.olderHeld, hw]
  rfl

/-- No EXHAUSTED request wakes where none waits for room (R74). -/
theorem State.noneWaitsForRoom.heldOf {w : WindowId} (h : s.noneWaitsForRoom w) : s.heldOf w [.exhausted] = [] := by
  simp only [State.heldOf, State.heldWhere, List.map_eq_nil_iff, List.filter_eq_nil_iff, Bool.and_eq_true, beq_iff_eq,
    List.contains_eq_mem, List.mem_singleton, decide_eq_true_eq, not_and]
  exact fun g hg hwin hr => h g hg ⟨hr, hwin⟩

/-- A verdict of hold: the request joins both lists, and nothing else happens (R47, R71). -/
theorem State.finishTake_hold {x : State} {reason : HoldReason} {w : Option WindowId} (met : Bool) (hx : s.sameButStore x)
    (hw : s.windowOf r.line = w) :
    s.finishTake r ⟨x, .hold reason w, met, none⟩ = x.heldTaken r reason w met := by
  unfold State.sameButStore at hx
  subst hw
  unfold State.finishTake
  rw [Steered.wakes, Verdict.sends, State.closeEvent_nothing]
  rw [hx]
  rfl

/-- A verdict that answers: the answers of the initiator leave as far as they can (R48); it wakes no request where none waits. -/
theorem State.finishTake_answer {x : State} {a : AnswerForm} {cap : Option (List (Option Byte))} {w : Option WindowId} {met : Bool}
    {woke : Option WindowId} (hx : s.sameButStore x) (hw : s.windowOf r.line = w)
    (hwake : ∀ u, woke = some u → s.noneWaitsForRoom u) :
    s.finishTake r ⟨x, .answer a cap, met, woke⟩ = x.answerTaken r w a cap := by
  have enter : s.enter r ⟨x, .answer a cap, met, woke⟩ = x.answerTaken r w a cap := by
    unfold State.sameButStore at hx
    subst hw
    rw [hx]
    rfl
  have wakes : Steered.wakes ⟨x, .answer a cap, met, woke⟩ (x.answerTaken r w a cap) = [] := by
    cases woke with
    | none => rfl
    | some u =>
      unfold State.sameButStore at hx
      rw [hx]
      exact (hwake u rfl).heldOf
  unfold State.finishTake
  rw [enter, wakes, Verdict.sends, State.closeEvent_nothing]
  rfl

/-- A request handed over to an empty wait list, with fewer than 12 outstanding, is issued at once (R109). -/
theorem State.issueHost_handOver {t : State} {d : HostDown} (hq : t.waitList = []) (hc : t.hostCount < 12) :
    (t.handOver d).issueHost = { t with outstanding := t.outstanding ++ [.host d], issued := t.issued ++ [.host d.request] } := by
  obtain ⟨k, hk⟩ : ∃ k, Config.maxHostOutstanding - (t.handOver d).hostCount = k + 1 :=
    Nat.exists_eq_succ_of_ne_zero (Nat.sub_ne_zero_of_lt hc)
  unfold State.issueHost
  rw [hk]
  simp [State.handOver, hq, insertWaiting]

/-- A verdict that sends to memory: the request is issued at once, and the drain engine applies its rule (R109, R110). -/
theorem State.finishTake_send {x : State} {p : Purpose} {d : Request} {cap : Option (List (Option Byte))} {w : Option WindowId}
    {met : Bool} {woke : Option WindowId} (hx : s.sameButStore x) (hw : s.windowOf r.line = w)
    (hwake : ∀ u, woke = some u → s.noneWaitsForRoom u) (hq : s.waitList = []) (hc : s.hostCount < 12) :
    s.finishTake r ⟨x, .send p d cap, met, woke⟩ = (x.sentTaken r w p d cap).drainIssue := by
  have wakes : Steered.wakes ⟨x, .send p d cap, met, woke⟩ (s.enter r ⟨x, .send p d cap, met, woke⟩) = [] := by
    cases woke with
    | none => rfl
    | some u =>
      unfold State.sameButStore at hx
      rw [hx]
      exact (hwake u rfl).heldOf
  unfold State.finishTake
  rw [wakes, Verdict.sends, State.closeEvent_nothing, if_pos rfl]
  unfold State.sameButStore at hx
  refine congrArg State.drainIssue ?_
  rw [hx]
  subst hw
  exact State.issueHost_handOver hq hc

end Sys2Proof.Machine
end

section
/-! Requests in a window at their take: held, refused, answered, staged, or sent to memory (R50 to R65). -/

namespace Sys2Proof.Machine

variable {s : State} {r : Request} {w : WindowId}

theorem State.takesNext.hostCount (h : s.takesNext) : s.hostCount < 12 := by
  obtain ⟨-, -, -, hc, -⟩ := h
  exact hc

/-- A WRITE of a producer, by its window's state (R57). -/
theorem steerWrite_producer (x : Bool) (hp : (s.window w).isProducer r.initiator = true) :
    steerWrite s w r x =
      match (s.window w).state with
      | .off => ⟨s, .send .passThrough r none, x, none⟩
      | .closing => ⟨s, .hold .closing (some w), x, none⟩
      | .faulted => ⟨s, .answer .error none, x, none⟩
      | .active =>
        if (s.window w).tallyWrite r then tallyWrite s w r x
        else if (s.window w).ready then ⟨s, .hold .frameReady (some w), x, none⟩
        else stageWrite s w r false x := by
  unfold steerWrite
  exact if_neg (by simp [hp])

/-- A WRITE in a window, by its kind (R50). -/
theorem steerInWindow_write {lanes : List (Bool × Byte)} (x : Bool) (hk : r.kind = .write lanes) :
    steerInWindow s w r x = steerWrite s w r x := by
  unfold steerInWindow
  rw [hk]

/-- Settles O27: each of the three classifications is a hold, and a take that holds changes nothing else (`State.finishTake_hold`). -/
theorem heldRequestsJoinTheTail : Obligations.HeldRequestsJoinTheTail := by
  intro s r htake hm
  refine ⟨fun ⟨g, hg, hi, ho⟩ => ?_, fun w lanes hn hw hk hp => ⟨fun hst => ?_, fun hst hready hmark => ?_⟩⟩
  · have older : s.olderHeld r.initiator s.nextOrder = true := by
      simp only [State.olderHeld, List.any_eq_true, Bool.and_eq_true, beq_iff_eq, decide_eq_true_eq]
      exact ⟨g, hg, hi, ho⟩
    rw [exec_hostSideRequest htake, State.takeRequest, State.judgeNew, if_neg (by simp [hm]), classify, if_pos older]
    exact congrArg Host.Outcome.next (State.finishTake_hold false rfl rfl)
  · rw [exec_inWindow htake hm hn hw, steerInWindow_write false hk, steerWrite_producer false hp, hst]
    exact congrArg Host.Outcome.next (State.finishTake_hold false rfl hw)
  · have held : steerWrite s w r false = ⟨s, .hold .frameReady (some w), false, none⟩ := by
      rw [steerWrite_producer false hp, hst]
      rcases hmark with ht | hd
      · simp [ht, hready]
      · simp only [tallyWrite, hd, hready, if_true, ite_self]
    rw [exec_inWindow htake hm hn hw, steerInWindow_write false hk, held]
    exact congrArg Host.Outcome.next (State.finishTake_hold false rfl hw)

/-- Settles O32: a tally write is refused in ANY and COUNT mode, and a mark of tally bytes alone sets the ready flag (R60). -/
theorem tallyWrites : Obligations.TallyWrites := by
  intro s r w lanes htake hm hn hw hk hp hst htally
  rw [exec_inWindow htake hm hn hw, steerInWindow_write false hk, steerWrite_producer false hp, hst]
  simp only [htally, if_true]
  refine ⟨fun hmode => ?_, fun hmode hready hstages hnone => ?_⟩
  · have refused : tallyWrite s w r false =
        ⟨s.notify .badRequest (.initiator r.initiator) none (some r.initiator), .answer .error none, false, none⟩ := by
      unfold tallyWrite
      dsimp only
      split
      · next h => exact absurd h hmode
      all_goals rfl
    rw [refused]
    exact congrArg Host.Outcome.next (State.finishTake_answer rfl hw (by simp))
  · have marks : tallyWrite s w r false =
        ⟨s.updWindow w fun v => { v with ready := true }, .answer (.okay []) none, false, some w⟩ := by
      simp [tallyWrite, hmode, hready, hstages]
    rw [marks]
    exact congrArg Host.Outcome.next (State.finishTake_answer rfl hw fun u hu => Option.some.inj hu ▸ hnone)

end Sys2Proof.Machine
end

section
/-! Reads in a window: the view (R34), its capture (R35), and the tally word (R7). -/

namespace Sys2Proof.Machine

variable {s : State} {r : Request} {w : WindowId}

theorem Window.isTally_iff {v : Window} {l : Line} {p : Nat} :
    v.isTally l p = true ↔ v.desc.tally = true ∧ 56 ≤ p ∧ l.toNat + 1 = v.desc.base.toNat + v.desc.size.toNat := by
  simp only [Window.isTally, Bool.and_eq_true, decide_eq_true_eq]
  exact ⟨fun ⟨⟨a, b⟩, c⟩ => ⟨a, c, b⟩, fun ⟨a, c, b⟩ => ⟨⟨a, b⟩, c⟩⟩

/-- The tally word is the commit count below the last-commit beat number (R7). -/
theorem Window.tallyByte_eq (v : Window) {p : Nat} (h : 56 ≤ p) (hp : p < 64) :
    v.tallyByte p = (v.lastCommitBeat ++ v.commitCount).extractLsb' (8 * (p - 56)) 8 := by
  refine BitVec.eq_of_getLsbD_eq fun i hi => ?_
  unfold Window.tallyByte
  split
  · have hlow : 8 * (p - 56) + i < 32 := by omega
    rw [BitVec.getLsbD_extractLsb', BitVec.getLsbD_extractLsb', BitVec.getLsbD_append, if_pos hlow]
  · have hhigh : ¬ 8 * (p - 56) + i < 32 := by omega
    have hplace : 8 * (p - 56) + i - 32 = 8 * (p - 60) + i := by omega
    rw [BitVec.getLsbD_extractLsb', BitVec.getLsbD_extractLsb', BitVec.getLsbD_append, if_neg hhigh, hplace]

theorem State.viewByte_tally {i : Initiator} {l : Line} {p : Nat} (h : (s.window w).isTally l p = true) :
    s.viewByte w i l p = some ((s.window w).tallyByte p) := if_pos h

theorem State.viewByte_producer {i : Initiator} {l : Line} {p : Nat} (h : (s.window w).isTally l p = false)
    (hi : (s.window w).isProducer i = true) : s.viewByte w i l p = (s.pendingByte w l p).or (s.committedByte w l p) := by
  unfold State.viewByte
  rw [if_neg (by simp [h]), if_pos hi]
  cases s.pendingByte w l p <;> rfl

theorem State.viewByte_consumer {i : Initiator} {l : Line} {p : Nat} (h : (s.window w).isTally l p = false)
    (hi : (s.window w).isProducer i = false) : s.viewByte w i l p = s.committedByte w l p := by
  unfold State.viewByte
  rw [if_neg (by simp [h]), if_neg (by simp [hi])]

/-- Bytes that are all captured are the answer, whatever memory gives (R37). -/
theorem combine_covered (word : List Byte) (data : List Byte) : combine (word.map some) data = word := by
  unfold combine
  refine List.ext_getElem? fun i => ?_
  rw [List.getElem?_mapIdx, List.getElem?_map]
  cases word[i]? <;> rfl

theorem filterMap_id_some {α : Type} (l : List (Option α)) (h : ∀ c ∈ l, c.isSome = true) : (l.filterMap id).map some = l := by
  induction l with
  | nil => rfl
  | cons c l ih =>
    obtain ⟨b, rfl⟩ := Option.isSome_iff_exists.mp (h c (by simp))
    exact congrArg (some b :: ·) (ih fun c hc => h c (List.mem_cons_of_mem _ hc))

/-- A READ in a window whose capture covers it (R55). -/
theorem steerRead_covered (x : Bool) (h : ∀ c ∈ s.capture w r, c.isSome = true) :
    steerRead s w r x =
      ⟨s, .answer (.okay ((s.capture w r).filterMap id)) (some (s.capture w r)), x, none⟩ := by
  have hall : (s.capture w r).all Option.isSome = true := by simpa using h
  unfold steerRead
  rw [if_pos hall]
  conv in combine _ _ => rw [← filterMap_id_some _ h, combine_covered]

/-- A READ in a window whose capture leaves a byte to memory (R55). -/
theorem steerRead_uncovered (x : Bool) (h : none ∈ s.capture w r) :
    steerRead s w r x = ⟨s, .send .viewedRead r (some (s.capture w r)), x, none⟩ := by
  unfold steerRead
  rw [if_neg]
  simp only [List.all_eq_true, not_forall]
  exact ⟨none, h, by simp⟩

theorem steerInWindow_read (x : Bool) (hk : r.kind = .read) : steerInWindow s w r x = steerRead s w r x := by
  unfold steerInWindow
  rw [hk]

/-- Settles O30: the sources of the view one by one, and the two classifications of a READ in a window. -/
theorem viewedReadsComplete : Obligations.ViewedReadsComplete := by
  intro s r w htake hm hn hw hk
  refine ⟨fun p hp tally htally => ?_, ?_⟩
  · have tally_iff : tally ↔ (s.window w).isTally r.line p = true := htally.trans Window.isTally_iff.symm
    refine ⟨fun ht => ?_, fun ht hi => ?_, fun ht hi => ?_⟩
    · rw [State.viewByte_tally (tally_iff.mp ht), Window.tallyByte_eq _ (htally.mp ht).2.1 hp]
    · exact State.viewByte_producer (by simpa using mt tally_iff.mpr ht) hi
    · exact State.viewByte_consumer (by simpa using mt tally_iff.mpr ht) hi
  · rintro cap hcap
    obtain rfl : cap = s.capture w r := hcap
    rw [exec_inWindow htake hm hn hw, steerInWindow_read false hk]
    refine ⟨fun hall => ?_, fun ⟨i, hi, hmem⟩ hq => ?_⟩
    · have covered : ∀ c ∈ s.capture w r, c.isSome = true := by simpa [State.capture] using hall
      rw [steerRead_covered false covered]
      exact congrArg Host.Outcome.next (State.finishTake_answer rfl hw (by simp))
    · have uncovered : none ∈ s.capture w r := List.mem_map.mpr ⟨i, List.mem_range.mpr hi, hmem⟩
      rw [steerRead_uncovered false uncovered]
      exact congrArg Host.Outcome.next (State.finishTake_send rfl hw (by simp) hq htake.hostCount)

/-- Settles O31: the eight bytes of the tally word are all tally bytes, so the capture covers the READ (R7, R55). -/
theorem tallyWordReads : Obligations.TallyWordReads := by
  intro s r w htake hn hw hk hsize hoff htally hlast word hword
  have hm : r.malformed = false := by simp [Request.malformed, hsize, hoff]
  have cap : s.capture w r = word.map some := by
    have view : ∀ i < 8, s.viewByte w r.initiator r.line (56 + i) = some ((s.window w).tallyByte (56 + i)) := fun i _ =>
      State.viewByte_tally (Window.isTally_iff.mpr ⟨htally, Nat.le_add_right 56 i, hlast⟩)
    unfold State.capture
    rw [hsize, hoff, List.map_congr_left fun i hi => view i (List.mem_range.mp hi), hword]
    rfl
  have covered : ∀ c ∈ s.capture w r, c.isSome = true := by simp [cap]
  rw [exec_inWindow htake hm hn hw, steerInWindow_read false hk, steerRead_covered false covered, cap, List.filterMap_map]
  simp only [Function.id_comp, List.filterMap_some]
  exact congrArg Host.Outcome.next (State.finishTake_answer rfl hw (by simp))

end Sys2Proof.Machine
end

section
/-! Writes that are staged, and writes that meet exhaustion (R30 to R33, R58, R61 to R65). -/

namespace Sys2Proof.Machine

variable {s : State} {r : Request} {w : WindowId}

/-! ### What a staged write makes of the pool -/

/-- The state with the write merged into its line's PENDING entry, allocated first if the line has none (R30, R32). -/
def State.staged (s : State) (w : WindowId) (r : Request) : State :=
  (if (s.pendingEntry w r.line).isSome then s else s.allocate w r.line).merge w r

/-- A staged write changes the pool alone. -/
theorem State.staged_pool (s : State) (w : WindowId) (r : Request) : s.staged w r = { s with pool := (s.staged w r).pool } := by
  unfold State.staged
  split <;> rfl

@[simp] theorem State.staged_window (s : State) (w u : WindowId) (r : Request) : (s.staged w r).window u = s.window u := by
  rw [s.staged_pool]
  rfl

/-- A producer write for which there is an entry, or room for one, is staged (R58). -/
theorem stageWrite_staged (m x : Bool) (h : (s.pendingEntry w r.line).isSome = true ∨ s.allocOk w = true) :
    stageWrite s w r m x = stagedDone (s.staged w r) w m (!(s.pendingEntry w r.line).isSome) x := by
  unfold stageWrite State.staged
  cases hp : (s.pendingEntry w r.line).isSome
  · rw [if_neg (by simp), if_pos (by simpa [hp] using h)]
    rfl
  · rfl

theorem Entry.isPendingOf_iff {e : Entry} {l : Line} :
    e.isPendingOf w l = true ↔ e.window = w ∧ e.line = l ∧ e.isPending = true := by
  simp [Entry.isPendingOf, and_assoc]

/-- What a merge makes of an entry (R32). -/
def Entry.mergedWith (v : Window) (w : WindowId) (r : Request) (e : Entry) : Entry :=
  if e.isPendingOf w r.line then { e with cells := mergeCells v r e.cells } else e

theorem State.merge_pool (s : State) (w : WindowId) (r : Request) :
    (s.merge w r).pool = s.pool.map (Entry.mergedWith (s.window w) w r) := rfl

/-- A merge keeps what each entry is (R32). -/
theorem Entry.mergedWith_keeps (v : Window) (w : WindowId) (r : Request) (e : Entry) :
    (e.mergedWith v w r).window = e.window ∧ (e.mergedWith v w r).line = e.line ∧ (e.mergedWith v w r).gen = e.gen := by
  unfold Entry.mergedWith
  split <;> exact ⟨rfl, rfl, rfl⟩

theorem Entry.mergedWith_isPendingOf (v : Window) (w u : WindowId) (r : Request) (l : Line) (e : Entry) :
    (e.mergedWith v w r).isPendingOf u l = e.isPendingOf u l := by
  obtain ⟨h1, h2, h3⟩ := e.mergedWith_keeps v w r
  unfold Entry.isPendingOf Entry.isPending
  rw [h1, h2, h3]

theorem Entry.mergedWith_isCommittedOf (v : Window) (w u : WindowId) (r : Request) (l : Line) (e : Entry) :
    (e.mergedWith v w r).isCommittedOf u l = e.isCommittedOf u l := by
  obtain ⟨h1, h2, h3⟩ := e.mergedWith_keeps v w r
  unfold Entry.isCommittedOf Entry.isPending
  rw [h1, h2, h3]

theorem State.merge_pendingEntry (s : State) (w u : WindowId) (r : Request) (l : Line) :
    (s.merge w r).pendingEntry u l = (s.pendingEntry u l).map (Entry.mergedWith (s.window w) w r) := by
  have h : ((fun e : Entry => e.isPendingOf u l) ∘ Entry.mergedWith (s.window w) w r) = fun e => e.isPendingOf u l :=
    funext fun e => e.mergedWith_isPendingOf _ w u r l
  unfold State.pendingEntry
  rw [State.merge_pool, List.find?_map, h]

theorem State.merge_committedEntry (s : State) (w u : WindowId) (r : Request) (l : Line) :
    (s.merge w r).committedEntry u l = (s.committedEntry u l).map (Entry.mergedWith (s.window w) w r) := by
  have h : ((fun e : Entry => e.isCommittedOf u l) ∘ Entry.mergedWith (s.window w) w r) = fun e => e.isCommittedOf u l :=
    funext fun e => e.mergedWith_isCommittedOf _ w u r l
  unfold State.committedEntry
  rw [State.merge_pool, List.find?_map, h]

/-- After a merge each position of the line's PENDING entry holds the byte the write stages, or what it held (R32, R33). -/
theorem State.merge_pendingByte (h : (s.pendingEntry w r.line).isSome = true) {p : Nat} (hp : p < 64) :
    (s.merge w r).pendingByte w r.line p = ((s.window w).stagedByte r p).or (s.pendingByte w r.line p) := by
  obtain ⟨e, he⟩ := Option.isSome_iff_exists.mp h
  have hpe := (State.pendingEntry_some he).2
  unfold State.pendingByte
  rw [State.merge_pendingEntry, he]
  simp only [Option.map_some, Option.bind_some, Entry.mergedWith, hpe, if_true, Entry.cell, mergeCells_get _ _ _ _ hp,
    Option.join_some]

/-- A merge leaves the bytes of every other PENDING entry (R32). -/
theorem State.merge_pendingByte_other {u : WindowId} {l : Line} (h : ¬ (u = w ∧ l = r.line)) (p : Nat) :
    (s.merge w r).pendingByte u l p = s.pendingByte u l p := by
  unfold State.pendingByte
  rw [State.merge_pendingEntry]
  cases he : s.pendingEntry u l with
  | none => rfl
  | some e =>
    obtain ⟨hw, hl, -⟩ := Entry.isPendingOf_iff.mp (State.pendingEntry_some he).2
    have : ¬ e.isPendingOf w r.line = true := fun hn => by
      obtain ⟨hw', hl', -⟩ := Entry.isPendingOf_iff.mp hn
      exact h ⟨hw.symm.trans hw', hl.symm.trans hl'⟩
    simp [Entry.mergedWith, this]

/-- A merge leaves the bytes of the COMMITTED entries (R32). -/
theorem State.merge_committedByte (s : State) (w u : WindowId) (r : Request) (l : Line) (p : Nat) :
    (s.merge w r).committedByte u l p = s.committedByte u l p := by
  unfold State.committedByte
  rw [State.merge_committedEntry]
  cases he : s.committedEntry u l with
  | none => rfl
  | some e =>
    have hc := (Entry.isCommittedOf_iff.mp (State.committedEntry_some he).2).2.2
    simp [Entry.mergedWith, Entry.isPendingOf, hc]

/-- The entry that an allocation gives a line: PENDING, with no valid byte (R30). -/
def State.freshEntry (s : State) (w : WindowId) (l : Line) : Entry :=
  ⟨w, l, .pending, List.replicate 64 none, (s.pendingList w).length + 1⟩

theorem State.allocate_pool (s : State) (w : WindowId) (l : Line) : (s.allocate w l).pool = s.pool ++ [s.freshEntry w l] := rfl

/-- The fresh entry holds no byte (R30). -/
theorem State.freshEntry_cell (s : State) (w : WindowId) (l : Line) (p : Nat) : (s.freshEntry w l).cell p = none := by
  show ((List.replicate 64 (none : Option Byte))[p]?).join = none
  rw [List.getElem?_replicate]
  split <;> rfl

/-- An allocation gives the line a PENDING entry, and no other (R30). -/
theorem State.allocate_pendingEntry (s : State) (w u : WindowId) (l m : Line) :
    (s.allocate w l).pendingEntry u m = (s.pendingEntry u m).or (if u = w ∧ m = l then some (s.freshEntry w l) else none) := by
  have hnew : (s.freshEntry w l).isPendingOf u m = decide (u = w ∧ m = l) := by
    rw [Bool.eq_iff_iff, Entry.isPendingOf_iff, decide_eq_true_eq]
    exact ⟨fun ⟨a, b, _⟩ => ⟨a.symm, b.symm⟩, fun ⟨a, b⟩ => ⟨a.symm, b.symm, rfl⟩⟩
  unfold State.pendingEntry
  rw [State.allocate_pool, List.find?_append, List.find?_singleton, hnew]
  simp only [decide_eq_true_eq]

theorem State.allocate_committedEntry (s : State) (w u : WindowId) (l m : Line) :
    (s.allocate w l).committedEntry u m = s.committedEntry u m := by
  have hnew : (s.freshEntry w l).isCommittedOf u m = false := by
    simp [State.freshEntry, Entry.isCommittedOf, Entry.isPending]
  unfold State.committedEntry
  rw [State.allocate_pool, List.find?_append, List.find?_singleton, hnew]
  simp

/-- An allocation changes the bytes of no entry (R30). -/
theorem State.allocate_pendingByte (s : State) (w u : WindowId) (l m : Line) (p : Nat) :
    (s.allocate w l).pendingByte u m p = s.pendingByte u m p := by
  unfold State.pendingByte
  rw [State.allocate_pendingEntry]
  cases s.pendingEntry u m with
  | some e => rfl
  | none =>
    rw [Option.none_or]
    split
    · exact s.freshEntry_cell w l p
    · rfl

/-- The state in which the write finds its entry. -/
def State.withEntry (s : State) (w : WindowId) (l : Line) : State :=
  if (s.pendingEntry w l).isSome then s else s.allocate w l

theorem State.withEntry_spec (s : State) (w : WindowId) (l : Line) :
    ((s.withEntry w l).pendingEntry w l).isSome = true ∧ (s.withEntry w l).window w = s.window w ∧
      (∀ u m p, (s.withEntry w l).pendingByte u m p = s.pendingByte u m p) ∧
      (∀ u m p, (s.withEntry w l).committedByte u m p = s.committedByte u m p) ∧
      (s.withEntry w l).pool.map (fun e => (e.window, e.line, e.gen)) =
        s.pool.map (fun e => (e.window, e.line, e.gen)) ++
          (if (s.pendingEntry w l).isSome then [] else [(w, l, Generation.pending)]) := by
  unfold State.withEntry
  split
  · next h => exact ⟨h, rfl, fun _ _ _ => rfl, fun _ _ _ => rfl, by simp⟩
  · refine ⟨?_, by simp, fun u m p => s.allocate_pendingByte w u l m p, fun u m p => ?_, by simp [State.allocate]⟩
    · rw [State.allocate_pendingEntry]
      simp
    · unfold State.committedByte
      rw [State.allocate_committedEntry]

theorem State.staged_eq (s : State) (w : WindowId) (r : Request) : s.staged w r = (s.withEntry w r.line).merge w r := rfl

/-- The pool after a staged write: the same entries, or one more, PENDING (R30). -/
theorem State.staged_entries (s : State) (w : WindowId) (r : Request) :
    (s.staged w r).pool.map (fun e => (e.window, e.line, e.gen)) =
      s.pool.map (fun e => (e.window, e.line, e.gen)) ++
        (if (s.pendingEntry w r.line).isSome then [] else [(w, r.line, Generation.pending)]) := by
  obtain ⟨-, -, -, -, he⟩ := s.withEntry_spec w r.line
  rw [← he, State.staged_eq, State.merge_pool, List.map_map]
  refine List.map_congr_left fun e _ => ?_
  obtain ⟨h1, h2, h3⟩ := e.mergedWith_keeps ((s.withEntry w r.line).window w) w r
  simp only [Function.comp_apply, h1, h2, h3]

theorem State.staged_pendingByte (s : State) (w : WindowId) (r : Request) {p : Nat} (hp : p < 64) :
    (s.staged w r).pendingByte w r.line p = ((s.window w).stagedByte r p).or (s.pendingByte w r.line p) := by
  obtain ⟨he, hw, hb, -⟩ := s.withEntry_spec w r.line
  rw [State.staged_eq, State.merge_pendingByte he hp, hw, hb]

theorem State.staged_pendingByte_other {u : WindowId} {l : Line} (h : ¬ (u = w ∧ l = r.line)) (p : Nat) :
    (s.staged w r).pendingByte u l p = s.pendingByte u l p := by
  obtain ⟨-, -, hb, -⟩ := s.withEntry_spec w r.line
  rw [State.staged_eq, State.merge_pendingByte_other h, hb]

theorem State.staged_committedByte (s : State) (w u : WindowId) (r : Request) (l : Line) (p : Nat) :
    (s.staged w r).committedByte u l p = s.committedByte u l p := by
  obtain ⟨-, -, -, hb, -⟩ := s.withEntry_spec w r.line
  rw [State.staged_eq, State.merge_committedByte, hb]

/-! ### The verdicts -/

/-- A producer's WRITE into an ACTIVE window whose frame is not ready, a mark that stages bytes among them, goes to staging (R57, R58). -/
theorem steerWrite_stages (x : Bool) (hp : (s.window w).isProducer r.initiator = true) (hst : (s.window w).state = .active)
    (hready : (s.window w).ready = false)
    (hmark : (s.window w).tallyWrite r = false ∨
      ((s.window w).desc.readiness = .mark ∧ (s.window w).stagesByte r = true)) :
    steerWrite s w r x = stageWrite s w r ((s.window w).tallyWrite r) x := by
  rw [steerWrite_producer x hp, hst]
  rcases hmark with ht | ⟨hd, hs⟩
  · simp [ht, hready]
  · cases ht : (s.window w).tallyWrite r
    · simp [hready]
    · simp [tallyWrite, hd, hs, hready]

/-- Two changes that make the same record of a window make the same state. -/
theorem State.updWindow_congr {f g : Window → Window} (h : f (s.window w) = g (s.window w)) :
    s.updWindow w f = s.updWindow w g := by
  unfold State.updWindow
  rw [show f s.windows[w] = g s.windows[w] from h]

/-- The write sets the ready flag: the one that makes a COUNT frame's count N, or a mark of a MARK frame (R58). -/
def Window.setsReady (v : Window) (mark : Bool) : Bool :=
  match v.desc.readiness with
  | .any => false
  | .count => decide (satInc v.writeCount = v.desc.readyCount.toNat)
  | .mark => mark

theorem stagedDone_state (s : State) (w : WindowId) (m a x : Bool) :
    (stagedDone s w m a x).state =
      s.updWindow w fun v =>
        { v with writeCount := satInc (s.window w).writeCount, ready := v.ready || (s.window w).setsReady m } := rfl

/-- The same in one expression, where a mark comes in MARK mode alone. -/
theorem Window.setsReady_eq {v : Window} {m : Bool} (hm : m = true → v.desc.readiness = .mark) :
    v.setsReady m =
      decide ((v.desc.readiness = .count ∧ min (v.writeCount + 1) (max 65535 v.writeCount) = v.desc.readyCount.toNat) ∨
        m = true) := by
  rw [← satInc_eq]
  unfold Window.setsReady
  cases hd : v.desc.readiness <;> cases m <;> simp_all

/-- A staged write wakes the requests of its own window alone (R74). -/
theorem stagedDone_woke {m a x : Bool} {u : WindowId} (h : (stagedDone s w m a x).woke = some u) : w = u := by
  have of_ite : ∀ b : Bool, (if b then some w else none) = some u → w = u := fun b hb => by
    cases b
    · cases hb
    · exact Option.some.inj hb
  exact of_ite _ h

/-- Settles O28: the write goes to staging, finds or is given its entry, and the take answers it OKAY. -/
theorem stagedWritesComplete : Obligations.StagedWritesComplete := by
  intro s r w lanes htake hm hn hw hk hp hst hready hmark hnone hroom
  have sets := Window.setsReady_eq (v := s.window w) (m := (s.window w).tallyWrite r) fun ht =>
    hmark.elim (fun h => absurd ht (by simp [h])) fun h => h.1
  have same : s.sameButStore (stagedDone (s.staged w r) w ((s.window w).tallyWrite r)
      (!(s.pendingEntry w r.line).isSome) false).state := by
    unfold stagedDone
    rw [s.staged_pool]
    rfl
  have taken := State.finishTake_answer (r := r) (a := .okay []) (cap := none) (met := false)
    (woke := (stagedDone (s.staged w r) w ((s.window w).tallyWrite r) (!(s.pendingEntry w r.line).isSome) false).woke)
    same hw fun u hu => stagedDone_woke hu ▸ hnone
  refine ⟨(stagedDone (s.staged w r) w ((s.window w).tallyWrite r) (!(s.pendingEntry w r.line).isSome) false).state.answerTaken
    r (some w) (.okay []), ?_, ?_, s.staged_entries w r, fun p hp => s.staged_pendingByte w r hp,
    fun u l p h => State.staged_pendingByte_other h p, fun u l p => s.staged_committedByte w u r l p⟩
  · rw [exec_inWindow htake hm hn hw, steerInWindow_write false hk, steerWrite_stages false hp hst hready hmark,
      stageWrite_staged _ _ hroom]
    exact congrArg Host.Outcome.next taken
  · refine congrArg (fun t : State => t.answerTaken r (some w) (.okay [])) ?_
    rw [stagedDone_state, s.staged_window, sets, satInc_eq]
    refine (State.updWindow_congr ?_).trans (congrArg (fun t : State => t.updWindow w _) (s.staged_pool w r))
    rw [s.staged_window, hready]
    simp
/-- What exhaustion counts and records (R61). -/
theorem exhausted_eq (s : State) (w : WindowId) (r : Request) :
    (s.updWindow w fun v => { v with exhaustions := min (v.exhaustions + 1) (max 65535 v.exhaustions) }).notify .exhausted
        (.window w) (some r.line) (some r.initiator) =
      (s.updWindow w fun v => { v with exhaustions := satInc v.exhaustions }).notify .exhausted (.window w) (some r.line)
        (some r.initiator) := by
  simp only [satInc_eq]

/-- Settles O29: the policy by the cases of `exhaust`, each followed to the end of the take. -/
theorem exhaustionFollowsThePolicy : Obligations.ExhaustionFollowsThePolicy := by
  rintro s r w lanes htake hm hn hw hk hp hst hready hmark hpend hroom c hc
  rw [exhausted_eq] at hc
  have same : s.sameButStore c := by rw [hc]; rfl
  have cw : c.window w = { s.window w with exhaustions := satInc (s.window w).exhaustions } := by
    rw [hc, State.notify_window, State.updWindow_self]
  have steered : exec (.hostSideRequest r) s = .next (s.finishTake r (exhaust s w r ((s.window w).tallyWrite r) false)) := by
    rw [exec_inWindow htake hm hn hw, steerInWindow_write false hk, steerWrite_stages false hp hst hready hmark, stageWrite,
      if_neg (by simp [hpend]), if_neg (by simp [hroom])]
  rw [steered]
  unfold exhaust
  simp only [Bool.false_eq_true, if_false]
  rw [← hc]
  refine ⟨fun hd => ?_, fun hd => ?_, fun hd hcommitted => ?_, fun hd hcommitted hq hwakes => ?_⟩
  · rw [hd]
    exact congrArg Host.Outcome.next (State.finishTake_hold true same hw)
  · rw [hd]
    exact congrArg Host.Outcome.next (State.finishTake_answer same hw (by simp))
  · rw [hd]
    simp only [hcommitted, if_true]
    exact congrArg Host.Outcome.next (State.finishTake_hold true same hw)
  · rw [hd]
    simp only [hcommitted, Option.isSome_none, Bool.false_eq_true, if_false]
    have tally : (c.window w).withoutTally r = (s.window w).withoutTally r := by
      rw [cw]
      rfl
    have torn : (c.window w).torn = (s.window w).torn := by rw [cw]
    have mark : ∀ t : State, t.window w = c.window w →
        (t.updWindow w fun v => { v with torn := true, ready := v.ready || (s.window w).tallyWrite r }) =
          t.updWindow w fun v => { v with torn := true, ready := (s.window w).tallyWrite r } := fun t ht =>
      State.updWindow_congr (by simp [ht, cw, hready])
    have ends := fun {x : State} (hx : s.sameButStore x) =>
      State.finishTake_send (r := r) (x := x) (p := .bypass) (d := (s.window w).withoutTally r) (cap := none) (met := true)
        (woke := if (s.window w).tallyWrite r then some w else none) hx hw
        (fun u hu => by
          split at hu
          · next h => exact Option.some.inj hu ▸ hwakes h
          · cases hu) hq htake.hostCount
    unfold bypassWrite
    dsimp only
    rw [tally, torn]
    refine congrArg Host.Outcome.next ?_
    cases ht : (s.window w).torn
    · simp only [Bool.false_eq_true, if_false]
      rw [mark _ (by simp)]
      exact ends (by rw [hc]; rfl)
    · simp only [if_true]
      rw [mark _ rfl]
      exact ends (by rw [hc]; rfl)

end Sys2Proof.Machine
end

section
/-! INIT: the held requests answered, and the end (R83, R165 to R168). -/

namespace Sys2Proof.Machine

variable {s : State}

/-! ### What departs -/

/-- An entry stays in the list, or it is READY and its answer leaves (R48). -/
theorem departures_mem (i : Initiator) (l : List InFlight) {e : InFlight} (he : e ∈ l) :
    e ∈ (departures i l).2 ∨ ∃ a, e.status = .ready a ∧ (⟨e.order, e.request.initiator, a⟩ : Answer) ∈ (departures i l).1 := by
  induction l with
  | nil => cases he
  | cons x l ih =>
    have rest : e ∈ l → e ∈ (departures i l).2 ∨
        ∃ a, e.status = .ready a ∧ (⟨e.order, e.request.initiator, a⟩ : Answer) ∈ (departures i l).1 := ih
    unfold departures
    split
    · next hx =>
      split
      · next a hs =>
        rcases List.mem_cons.mp he with rfl | he
        · exact .inr ⟨a, hs, by rw [hx]; exact List.mem_cons_self⟩
        · exact (rest he).imp_right fun ⟨b, hb, hm⟩ => ⟨b, hb, List.mem_cons_of_mem _ hm⟩
      · exact .inl he
    · rcases List.mem_cons.mp he with rfl | he
      · exact .inl List.mem_cons_self
      · exact (rest he).imp_left (List.mem_cons_of_mem _)

/-- Each answer that leaves is that of a READY entry (R48). -/
theorem departures_answers (i : Initiator) (l : List InFlight) {b : Answer} (hb : b ∈ (departures i l).1) :
    ∃ e ∈ l, e.order = b.order ∧ e.request.initiator = b.initiator ∧ e.status = .ready b.form := by
  induction l with
  | nil => cases hb
  | cons x l ih =>
    have later : (∃ e ∈ l, e.order = b.order ∧ e.request.initiator = b.initiator ∧ e.status = .ready b.form) →
        ∃ e ∈ x :: l, e.order = b.order ∧ e.request.initiator = b.initiator ∧ e.status = .ready b.form :=
      fun ⟨e, he, h⟩ => ⟨e, List.mem_cons_of_mem _ he, h⟩
    unfold departures at hb
    split at hb
    · next hx =>
      split at hb
      · next a hs =>
        rcases List.mem_cons.mp hb with rfl | hb
        · exact ⟨x, List.mem_cons_self, rfl, hx, hs⟩
        · exact later (ih hb)
      · cases hb
    · exact later (ih hb)

/-- Where all of an initiator's entries are READY, all of them leave (R48). -/
theorem departures_all (i : Initiator) (l : List InFlight) (h : ∀ e ∈ l, e.request.initiator = i → ∃ a, e.status = .ready a) :
    ∀ e ∈ (departures i l).2, e.request.initiator ≠ i := by
  induction l with
  | nil => exact fun e he => absurd he (by simp [departures])
  | cons x l ih =>
    have ih := ih fun e he => h e (List.mem_cons_of_mem _ he)
    unfold departures
    split
    · next hx =>
      obtain ⟨a, ha⟩ := h x List.mem_cons_self hx
      rw [ha]
      exact ih
    · next hx =>
      intro e he
      rcases List.mem_cons.mp he with rfl | he
      · exact hx
      · exact ih e he

/-! ### The held requests answered -/

/-- The in-flight entry once the requests at the places `n` are answered ERROR. -/
def InFlight.answeredError (n : List Nat) (e : InFlight) : InFlight :=
  if e.order ∈ n then { e with status := .ready .error } else e

@[simp] theorem InFlight.answeredError_order (n : List Nat) (e : InFlight) : (e.answeredError n).order = e.order := by
  unfold InFlight.answeredError
  split <;> rfl

@[simp] theorem InFlight.answeredError_request (n : List Nat) (e : InFlight) : (e.answeredError n).request = e.request := by
  unfold InFlight.answeredError
  split <;> rfl

/-- From `s` to `t` the requests at the places `n` have been answered ERROR, and nothing else but what then leaves (R48, R83). -/
structure State.ErrorsGiven (s : State) (n : List Nat) (t : State) : Prop where
  sublist : ∀ f ∈ t.inflight, ∃ e ∈ s.inflight, f = e.answeredError n
  kept : ∀ e ∈ s.inflight, e.answeredError n ∈ t.inflight ∨
    ∃ a, (e.answeredError n).status = .ready a ∧ (⟨e.order, e.request.initiator, a⟩ : Answer) ∈ t.answers
  more : s.answers <+: t.answers
  sent : ∀ b ∈ t.answers.drop s.answers.length, ∃ e ∈ s.inflight,
    e.order = b.order ∧ e.request.initiator = b.initiator ∧ (e.answeredError n).status = .ready b.form

theorem State.ErrorsGiven.start (s : State) : s.ErrorsGiven [] { s with holdQueue := [] } := by
  have id : ∀ e : InFlight, e.answeredError [] = e := fun e => if_neg (by simp)
  exact ⟨fun f hf => ⟨f, hf, (id f).symm⟩, fun e he => .inl (by rw [id]; exact he), List.prefix_refl _, by simp⟩

/-- One more held request is answered: its entry was HELD, so it has not left (R83). -/
theorem State.ErrorsGiven.next {t : State} {n : List Nat} (h : s.ErrorsGiven n t) (m : Nat) (i : Initiator)
    (hm : ∀ e ∈ s.inflight, e.order = m → e.status = .held) : s.ErrorsGiven (n ++ [m]) (t.determine m i .error) := by
  have step_eq : ∀ e : InFlight,
      (if (e.answeredError n).order = m then { e.answeredError n with status := Status.ready .error } else e.answeredError n) =
        e.answeredError (n ++ [m]) := by
    intro e
    rw [InFlight.answeredError_order]
    by_cases h2 : e.order = m
    · rw [if_pos h2, InFlight.answeredError, InFlight.answeredError, if_pos (List.mem_append_right _ (by simp [h2]))]
      split <;> rfl
    · have same : e.order ∈ n ++ [m] ↔ e.order ∈ n := by simp [h2]
      rw [if_neg h2]
      exact (if_congr same rfl rfl).symm
  have grow : ∀ e ∈ s.inflight, ∀ a, (e.answeredError n).status = .ready a → (e.answeredError (n ++ [m])).status = .ready a := by
    intro e he a ha
    rw [← step_eq e]
    split
    · next ho =>
      have hheld := hm e he (by simpa using ho)
      unfold InFlight.answeredError at ha ⊢
      split at ha
      · exact ha
      · rw [hheld] at ha
        cases ha
    · exact ha
  have set : (t.setStatus m (.ready .error)).inflight =
      t.inflight.map fun e => if e.order = m then { e with status := .ready .error } else e := rfl
  have answers : (t.determine m i .error).answers = t.answers ++ (departures i (t.setStatus m (.ready .error)).inflight).1 := rfl
  have hin : ∀ f ∈ (t.setStatus m (.ready .error)).inflight, ∃ e ∈ s.inflight, f = e.answeredError (n ++ [m]) := by
    intro f hf
    rw [set] at hf
    obtain ⟨g, hg, rfl⟩ := List.mem_map.mp hf
    obtain ⟨e, he, rfl⟩ := h.sublist g hg
    exact ⟨e, he, step_eq e⟩
  refine ⟨fun f hf => hin f ((departures_sublist _ _).subset hf), fun e he => ?_, ?_, fun b hb => ?_⟩
  · rcases h.kept e he with hk | ⟨a, ha, hk⟩
    · have hmem : e.answeredError (n ++ [m]) ∈ (t.setStatus m (.ready .error)).inflight := by
        rw [set, ← step_eq e]
        exact List.mem_map.mpr ⟨_, hk, rfl⟩
      refine (departures_mem i _ hmem).imp_right fun ⟨a, ha, hleft⟩ => ⟨a, ha, ?_⟩
      rw [answers]
      exact List.mem_append_right _ (by simpa using hleft)
    · exact .inr ⟨a, grow e he a ha, by rw [answers]; exact List.mem_append_left _ hk⟩
  · rw [answers]
    exact h.more.trans (List.prefix_append _ _)
  · rw [answers, List.drop_append_of_le_length h.more.length_le] at hb
    rcases List.mem_append.mp hb with hb | hb
    · obtain ⟨e, he, h1, h2, h3⟩ := h.sent b hb
      exact ⟨e, he, h1, h2, grow e he _ h3⟩
    · obtain ⟨f, hf, h1, h2, h3⟩ := departures_answers i _ hb
      obtain ⟨e, he, rfl⟩ := hin f hf
      exact ⟨e, he, by simpa using h1, by simpa using h2, h3⟩

/-- The hold queue and the HELD entries name the same requests (R70). -/
theorem State.portsAgree.held_iff (h : s.portsAgree) {e : InFlight} (he : e ∈ s.inflight) :
    e.status = .held ↔ ∃ g ∈ s.holdQueue, g.order = e.order := by
  obtain ⟨hsorted, -, hheld, -⟩ := h
  have nodup : (s.inflight.map (·.order)).Nodup := hsorted.imp (fun h => Nat.ne_of_lt h)
  constructor
  · intro hs
    have : (e.order, e.request) ∈ s.holdQueue.map fun h => (h.order, h.request) := by
      rw [hheld]
      exact List.mem_map.mpr ⟨e, List.mem_filter.mpr ⟨he, by simp [InFlight.isHeld, hs]⟩, rfl⟩
    obtain ⟨g, hg, e⟩ := List.mem_map.mp this
    exact ⟨g, hg, congrArg Prod.fst e⟩
  · rintro ⟨g, hg, ho⟩
    have : (g.order, g.request) ∈ (s.inflight.filter (·.isHeld)).map fun e => (e.order, e.request) := by
      rw [← hheld]
      exact List.mem_map.mpr ⟨g, hg, rfl⟩
    obtain ⟨f, hf, hfg⟩ := List.mem_map.mp this
    obtain ⟨hf, hst⟩ := List.mem_filter.mp hf
    have : f = e := List.inj_on_of_nodup_map nodup hf he ((congrArg Prod.fst hfg).trans ho)
    subst this
    simpa [InFlight.isHeld] using hst

/-- A held request has its HELD entry in flight (R70). -/
theorem State.portsAgree.entry_of_held (h : s.portsAgree) {g : Held} (hg : g ∈ s.holdQueue) :
    ∃ e ∈ s.inflight, e.order = g.order ∧ e.request = g.request ∧ e.status = .held := by
  obtain ⟨-, -, hheld, -⟩ := h
  have : (g.order, g.request) ∈ (s.inflight.filter (·.isHeld)).map fun e => (e.order, e.request) := by
    rw [← hheld]
    exact List.mem_map.mpr ⟨g, hg, rfl⟩
  obtain ⟨f, hf, hfg⟩ := List.mem_map.mp this
  obtain ⟨hf, hst⟩ := List.mem_filter.mp hf
  exact ⟨f, hf, congrArg Prod.fst hfg, congrArg Prod.snd hfg, by simpa [InFlight.isHeld] using hst⟩

/-- INIT answers every held request ERROR (R83). -/
theorem State.answerHeld_errorsGiven (h : s.portsAgree) : s.ErrorsGiven (s.holdQueue.map (·.order)) s.answerHeld := by
  have run : ∀ (q : List Held) (n : List Nat) (t : State), s.ErrorsGiven n t → (∀ g ∈ q, g ∈ s.holdQueue) →
      s.ErrorsGiven (n ++ q.map (·.order)) (q.foldl (fun t g => t.determine g.order g.request.initiator .error) t) := by
    intro q
    induction q with
    | nil => exact fun n t ht _ => by simpa using ht
    | cons g q ih =>
      intro n t ht hq
      have one := ht.next g.order g.request.initiator fun e he ho => (h.held_iff he).mpr ⟨g, hq g (by simp), ho.symm⟩
      simpa using ih _ _ one fun x hx => hq x (List.mem_cons_of_mem _ hx)
  exact run s.holdQueue [] _ (State.ErrorsGiven.start s) fun _ hg => hg

/-- An entry that is not HELD is left as it is. -/
theorem State.portsAgree.answeredError_eq (h : s.portsAgree) {e : InFlight} (he : e ∈ s.inflight) (hs : e.status ≠ .held) :
    e.answeredError (s.holdQueue.map (·.order)) = e :=
  if_neg fun hm => hs ((h.held_iff he).mpr (List.mem_map.mp hm))

/-- A HELD entry becomes READY with ERROR. -/
theorem State.portsAgree.answeredError_held (h : s.portsAgree) {e : InFlight} (he : e ∈ s.inflight) (hs : e.status = .held) :
    e.answeredError (s.holdQueue.map (·.order)) = { e with status := .ready .error } :=
  if_pos (List.mem_map.mpr ((h.held_iff he).mp hs))

/-- The answers given to the held requests, and what else leaves with them (R48, R83). -/
theorem State.ErrorsGiven.ends (hp : s.portsAgree) {t : State} (h : s.ErrorsGiven (s.holdQueue.map (·.order)) t) :
    (∀ g ∈ s.holdQueue, t.answered g.order g.request.initiator .error) ∧
      (∀ e ∈ s.inflight, e.status ≠ .held →
        e ∈ t.inflight ∨ ∃ a, e.status = .ready a ∧ t.answered e.order e.request.initiator a) ∧
      (∀ f ∈ t.inflight, f ∈ s.inflight ∨ ∃ e ∈ s.inflight, e.status = .held ∧ f = { e with status := .ready .error }) ∧
      (∀ f ∈ t.inflight, f.status ≠ .held) ∧
      ∀ b ∈ t.answers.drop s.answers.length, ∃ e ∈ s.inflight,
        e.order = b.order ∧ e.request.initiator = b.initiator ∧
          ((e.status = .held ∧ b.form = .error) ∨ e.status = .ready b.form) := by
  refine ⟨fun g hg => ?_, fun e he hs => ?_, fun f hf => ?_, fun f hf => ?_, fun b hb => ?_⟩
  · obtain ⟨e, he, ho, hr, hs⟩ := hp.entry_of_held hg
    have hk := h.kept e he
    rw [hp.answeredError_held he hs] at hk
    rw [← ho, ← hr]
    rcases hk with hk | ⟨a, ha, hk⟩
    · exact .inr ⟨_, hk, rfl, rfl, rfl⟩
    · cases ha
      exact .inl hk
  · have hk := h.kept e he
    rw [hp.answeredError_eq he hs] at hk
    exact hk.imp_right fun ⟨a, ha, hm⟩ => ⟨a, ha, .inl hm⟩
  · obtain ⟨e, he, rfl⟩ := h.sublist f hf
    by_cases hs : e.status = .held
    · exact .inr ⟨e, he, hs, hp.answeredError_held he hs⟩
    · exact .inl (by rw [hp.answeredError_eq he hs]; exact he)
  · obtain ⟨e, he, rfl⟩ := h.sublist f hf
    by_cases hs : e.status = .held
    · simp [hp.answeredError_held he hs]
    · rw [hp.answeredError_eq he hs]
      exact hs
  · obtain ⟨e, he, h1, h2, h3⟩ := h.sent b hb
    refine ⟨e, he, h1, h2, ?_⟩
    by_cases hs : e.status = .held
    · rw [hp.answeredError_held he hs] at h3
      exact .inl ⟨hs, (Status.ready.inj h3).symm⟩
    · rw [hp.answeredError_eq he hs] at h3
      exact .inr h3

/-- The answers of the held requests come behind those given (R48, R83). -/
theorem State.answerHeld_more (s : State) : s.answers <+: s.answerHeld.answers := by
  have run : ∀ (q : List Held) (t : State), s.answers <+: t.answers →
      s.answers <+: (q.foldl (fun t g => t.determine g.order g.request.initiator .error) t).answers := by
    intro q
    induction q with
    | nil => exact fun t ht => ht
    | cons g q ih => exact fun t ht => ih _ (ht.trans (List.prefix_append _ _))
  exact run s.holdQueue _ (List.prefix_refl _)

/-- With nothing outstanding, and no answer that could have left, INIT leaves nothing in flight (R167). -/
theorem State.answerHeld_inflight (h : s.portsAgree) (ho : s.outstanding = []) (hw : s.waitList = []) (hn : s.noAnswerWaits) :
    s.answerHeld.inflight = [] := by
  have notDown : ∀ e ∈ s.inflight, e.status ≠ .downstream := by
    obtain ⟨-, -, -, -, hperm⟩ := h
    intro e he hs
    have hnil : ((s.inflight.filter (·.isDown)).map fun e => (e.order, e.request.initiator)) = [] := by
      have hd : s.downstream = [] := by simp [State.downstream, ho, hw]
      rw [hd] at hperm
      exact List.nil_perm.mp hperm
    have : e ∈ s.inflight.filter (·.isDown) := List.mem_filter.mpr ⟨he, by simp [InFlight.isDown, hs]⟩
    simp [List.map_eq_nil_iff.mp hnil] at this
  have run : ∀ (q : List Held) (n : List Nat) (t : State), s.holdQueue.map (·.order) = n ++ q.map (·.order) →
      (∀ g ∈ q, g ∈ s.holdQueue) → s.ErrorsGiven n t →
      (∀ i, (∃ g ∈ q, g.request.initiator = i) ∨ ∀ e ∈ t.inflight, e.request.initiator ≠ i) →
      (q.foldl (fun t g => t.determine g.order g.request.initiator .error) t).inflight = [] := by
    intro q
    induction q with
    | nil =>
      intro n t _ _ _ hi
      refine List.eq_nil_iff_forall_not_mem.mpr fun e he => ?_
      rcases hi e.request.initiator with ⟨g, hg, -⟩ | hno
      · cases hg
      · exact hno e he rfl
    | cons g q ih =>
      intro n t hall hq ht hi
      have one := ht.next g.order g.request.initiator fun e he ho => (h.held_iff he).mpr ⟨g, hq g (by simp), ho.symm⟩
      refine ih (n ++ [g.order]) _ (by simpa using hall) (fun x hx => hq x (List.mem_cons_of_mem _ hx)) one fun i => ?_
      by_cases hlater : ∃ x ∈ q, x.request.initiator = i
      · exact .inl hlater
      refine .inr ?_
      by_cases hg : g.request.initiator = i
      · refine hg ▸ departures_all g.request.initiator _ fun f hf hfi => ?_
        obtain ⟨f', hf', rfl⟩ := List.mem_map.mp hf
        obtain ⟨e, he, rfl⟩ := ht.sublist f' hf'
        have hei : e.request.initiator = i := by
          rw [← hg, ← hfi]
          split <;> simp
        by_cases hord : e.order = g.order
        · exact ⟨.error, by simp [hord]⟩
        rw [if_neg (by simpa using hord)]
        unfold InFlight.answeredError
        split
        · exact ⟨.error, rfl⟩
        · next hn =>
          cases hs : e.status with
          | ready a => exact ⟨a, rfl⟩
          | downstream => exact absurd hs (notDown e he)
          | held =>
            obtain ⟨x, hx, hxo⟩ := (h.held_iff he).mp hs
            have hmem : e.order ∈ n ++ (g :: q).map (·.order) := hall ▸ List.mem_map.mpr ⟨x, hx, hxo⟩
            simp only [List.map_cons, List.mem_append, hn, List.mem_cons, hord, false_or] at hmem
            obtain ⟨y, hy, hyo⟩ := List.mem_map.mp hmem
            obtain ⟨e', he', ho', hr', -⟩ := h.entry_of_held (hq y (List.mem_cons_of_mem _ hy))
            have nodup : (s.inflight.map (·.order)).Nodup := h.1.imp (fun h => Nat.ne_of_lt h)
            have : e' = e := List.inj_on_of_nodup_map nodup he' he (ho'.trans hyo)
            subst this
            exact absurd ⟨y, hy, by rw [← hr']; exact hei⟩ hlater
      · have hold := (hi i).resolve_left fun ⟨x, hx, hxi⟩ => by
          rcases List.mem_cons.mp hx with rfl | hx
          · exact hg hxi
          · exact hlater ⟨x, hx, hxi⟩
        intro f hf
        obtain ⟨f', hf', rfl⟩ := List.mem_map.mp ((departures_sublist _ _).subset hf)
        have := hold f' hf'
        split <;> simpa using this
  refine run s.holdQueue [] _ rfl (fun _ hg => hg) (State.ErrorsGiven.start s) fun i => ?_
  by_cases hq : ∃ g ∈ s.holdQueue, g.request.initiator = i
  · exact .inl hq
  refine .inr fun e he hi => ?_
  cases hf : s.inflight.find? (fun e => e.request.initiator == i) with
  | none => exact absurd hi (by simpa using List.find?_eq_none.mp hf e he)
  | some f =>
    have hfi : f.request.initiator = i := by simpa using List.find?_some hf
    have hfm := List.mem_of_find?_eq_some hf
    cases hs : f.status with
    | ready a => exact hn i f hf a hs
    | downstream => exact notDown f hfm hs
    | held =>
      obtain ⟨-, -, hheld, -⟩ := h
      have : (f.order, f.request) ∈ s.holdQueue.map fun h => (h.order, h.request) := by
        rw [hheld]
        exact List.mem_map.mpr ⟨f, List.mem_filter.mpr ⟨hfm, by simp [InFlight.isHeld, hs]⟩, rfl⟩
      obtain ⟨g, hg, hgf⟩ := List.mem_map.mp this
      exact hq ⟨g, hg, by rw [show g.request = f.request from congrArg Prod.snd hgf]; exact hfi⟩

/-! ### The end of INIT -/

theorem State.endInit_isEndOf (s : State) : s.endInit.isEndOf s := ⟨rfl, fun w => s.endInit_window w⟩

theorem State.initDone_iff : s.initDone = true ↔ s.port.busy = true ∧ s.inflight = [] ∧ s.outstanding = [] := by
  simp [State.initDone, and_assoc]

theorem exec_initCommand (hb : s.port.busy = false) :
    exec .initCommand s = .next ({ s with port := { s.port with busy := true } } : State).answerHeld.testInitEnd := by
  show Host.Outcome.next (s.command .init) = _
  rw [State.command_free hb]
  rfl

/-- The state with INIT taken, its end still to come (R165). -/
def State.initTaken (s : State) : State := { s with port := { s.port with busy := true } }

/-- Settles O51: the answers by `State.ErrorsGiven.ends`, and the end where nothing is left in flight (`State.answerHeld_inflight`). -/
theorem initIsTakenAndEnds : Obligations.InitIsTakenAndEnds := by
  intro s
  have fields := s.initTaken.answerHeld_fields
  have agree : s.portsAgree → s.initTaken.ErrorsGiven (s.holdQueue.map (·.order)) s.initTaken.answerHeld :=
    fun hp => State.answerHeld_errorsGiven (s := s.initTaken) hp
  refine ⟨fun hb ho => ?_, fun hb ho hw hp hn => ?_, fun hb hi ho => ?_, fun hn => ?_⟩
  · have hnot : ¬ s.initTaken.answerHeld.initDone = true := by
      rw [State.initDone_iff, fields]
      exact fun h => ho h.2.2
    have hend : s.initTaken.answerHeld.testInitEnd = s.initTaken.answerHeld := if_neg hnot
    refine ⟨s.initTaken.answerHeld, (exec_initCommand hb).trans (congrArg Host.Outcome.next hend), ?_, ?_, fun hp => ?_⟩
    · exact fields
    · exact s.initTaken.answerHeld_more
    · exact (agree hp).ends (s := s.initTaken) hp
  · have hnil : s.initTaken.answerHeld.inflight = [] := State.answerHeld_inflight (s := s.initTaken) hp ho hw hn
    have hdone : s.initTaken.answerHeld.initDone = true := by
      rw [State.initDone_iff, hnil, fields]
      exact ⟨rfl, rfl, ho⟩
    have hend : s.initTaken.answerHeld.testInitEnd = s.initTaken.answerHeld.endInit := if_pos hdone
    have hkept : ∀ e ∈ s.inflight, ∃ a, (e.answeredError (s.holdQueue.map (·.order))).status = .ready a ∧
        (⟨e.order, e.request.initiator, a⟩ : Answer) ∈ s.initTaken.answerHeld.answers := fun e he =>
      ((agree hp).kept e he).resolve_left (by simp [hnil])
    refine ⟨s.initTaken.answerHeld.endInit, { s with inflight := [], answers := s.initTaken.answerHeld.answers, holdQueue := [] },
      (exec_initCommand hb).trans (congrArg Host.Outcome.next hend), ?_, rfl, s.initTaken.answerHeld_more, fun g hg => ?_,
      fun e he a ha => ?_⟩
    · rw [fields, hnil]
      exact ⟨rfl, fun w => State.endInit_window _ w⟩
    · obtain ⟨e, he, ho, hr, hs⟩ := hp.entry_of_held hg
      obtain ⟨a, ha, hm⟩ := hkept e he
      rw [hp.answeredError_held he hs] at ha
      cases ha
      rw [← ho, ← hr]
      exact hm
    · obtain ⟨b, hb, hm⟩ := hkept e he
      rw [hp.answeredError_eq he (by simp [ha]), ha] at hb
      cases hb
      exact hm
  · refine ⟨s.endInit, ?_, s.endInit_isEndOf⟩
    exact congrArg Host.Outcome.next (if_pos (State.initDone_iff.mpr ⟨hb, hi, ho⟩))
  · exact congrArg Host.Outcome.next (if_neg (mt State.initDone_iff.mp hn))

end Sys2Proof.Machine
end

section
/-! The issue rule of the drain engine in the spec's terms (R107, R110), and the first error of an entry (R115, R120). -/

namespace Sys2Proof.Machine

variable {s : State}

/-! ### What an issue does -/

/-- The rule issues the first `k` of the entries that do not wait, and leaves the others of them in their order (R110). -/
theorem pickDrains_picked (waits : DrainRef → Bool) (k : Nat) (q : List DrainRef) :
    (pickDrains waits k q).1 = (q.filter (!waits ·)).take k ∧
      (pickDrains waits k q).2.filter (!waits ·) = (q.filter (!waits ·)).drop k := by
  induction q generalizing k with
  | nil => cases k <;> simp [pickDrains]
  | cons r q ih =>
    cases k with
    | zero => simp [pickDrains]
    | succ k =>
      unfold pickDrains
      split
      · next hw => simpa [hw] using ih (k + 1)
      · next hw => simpa [hw] using ih k

/-- A host-origin request of line `l`. -/
def Outstanding.hostOf (l : Line) : Outstanding → Bool
  | .host d => d.request.line == l
  | .drain _ => false

theorem State.lineBusy_eq (s : State) (l : Line) :
    s.lineBusy l = (s.waitList.any (·.request.line == l) || s.outstanding.any (·.hostOf l)) := rfl

@[simp] theorem State.issuePicked_lineBusy (s : State) (x : List DrainRef × List DrainRef) (l : Line) :
    (s.issuePicked x).lineBusy l = s.lineBusy l := by
  have hd : (x.1.map Outstanding.drain).any (·.hostOf l) = false := by simp [Outstanding.hostOf]
  rw [State.lineBusy_eq, State.lineBusy_eq]
  simp only [State.issuePicked, List.any_append, hd, Bool.or_false]

theorem State.issuePicked_count (s : State) (x : List DrainRef × List DrainRef) :
    (s.issuePicked x).drainCount = s.drainCount + x.1.length := by
  have hc : ∀ q : List DrainRef, (q.map Outstanding.drain).countP (!·.isHost) = q.length := fun q => by
    induction q with
    | nil => rfl
    | cons a q ih => simp only [List.map_cons, List.countP_cons, ih]; rfl
  simp only [State.drainCount, State.issuePicked, List.countP_append, hc]

/-- Changing the entries one by one, each keeping its place, changes the COMMITTED entry of a line so. -/
theorem State.committedEntry_map {t : State} (f : Entry → Entry) (w : WindowId) (l : Line) (ht : t.pool = s.pool.map f)
    (hf : ∀ e, (f e).isCommittedOf w l = e.isCommittedOf w l) : t.committedEntry w l = (s.committedEntry w l).map f := by
  unfold State.committedEntry
  rw [ht, List.find?_map]
  exact congrArg _ (congrArg (s.pool.find? ·) (funext hf))

theorem Entry.withStatus_isCommittedOf (e : Entry) (st : DrainStatus) (w : WindowId) (l : Line) :
    (e.withStatus st).isCommittedOf w l = e.isCommittedOf w l := by simp [Entry.isCommittedOf]

/-- The issue makes the COMMITTED entry of a line ISSUED where it picks it (R107). -/
theorem State.issuePicked_committedEntry (s : State) (x : List DrainRef × List DrainRef) (w : WindowId) (l : Line) :
    (s.issuePicked x).committedEntry w l =
      (s.committedEntry w l).map fun e => if x.1.any fun r => e.isCommittedOf r.window r.line then e.withStatus .issued else e := by
  refine State.committedEntry_map _ w l rfl fun e => ?_
  split
  · exact e.withStatus_isCommittedOf _ w l
  · rfl

/-- An entry whose reference is not picked is left as it is. -/
theorem State.issuePicked_committedEntry_other {x : List DrainRef × List DrainRef} {w : WindowId} {l : Line}
    (h : (⟨w, l⟩ : DrainRef) ∉ x.1) : (s.issuePicked x).committedEntry w l = s.committedEntry w l := by
  rw [State.issuePicked_committedEntry]
  cases he : s.committedEntry w l with
  | none => rfl
  | some e =>
    obtain ⟨hw, hl, -⟩ := Entry.isCommittedOf_iff.mp (State.committedEntry_some he).2
    refine congrArg some (if_neg ?_)
    simp only [List.any_eq_true, not_exists, not_and]
    intro r hr hc
    obtain ⟨hw', hl', -⟩ := Entry.isCommittedOf_iff.mp hc
    exact h (by rw [← hw, ← hl, hw', hl']; exact hr)

/-- A picked entry is ISSUED, and its bytes have gone to memory (R107). -/
theorem State.issuePicked_issues {x : List DrainRef × List DrainRef} {d : DrainRef} (hd : d ∈ x.1) {e : Entry}
    (he : s.committedEntry d.window d.line = some e) :
    (s.issuePicked x).committedEntry d.window d.line = some (e.withStatus .issued) ∧
      BusRequest.drain d.line (e.cells.map fun c => (c.isSome, c.getD 0)) ∈ (s.issuePicked x).issued.drop s.issued.length := by
  have hc := (State.committedEntry_some he).2
  have hissued : (s.issuePicked x).issued =
      s.issued ++ (x.1.filterMap fun r => s.committedEntry r.window r.line).map drainRequest := rfl
  constructor
  · rw [State.issuePicked_committedEntry, he]
    exact congrArg some (if_pos (List.any_eq_true.mpr ⟨d, hd, hc⟩))
  · rw [hissued, List.drop_left]
    refine List.mem_map.mpr ⟨e, List.mem_filterMap.mpr ⟨d, hd, he⟩, ?_⟩
    rw [drainRequest, (Entry.isCommittedOf_iff.mp hc).2.1]

theorem Entry.withStatus_issued {e : Entry} (h : e.isPending = false) :
    (e.withStatus .issued).isQueued = false ∧ e.withStatus .issued = { e with gen := .committed .issued e.errorMet } := by
  obtain ⟨w, l, g, c⟩ := e
  cases g with
  | pending => simp [Entry.isPending] at h
  | committed st m => exact ⟨rfl, rfl⟩

/-! ### The issue rule -/

/-- The issue rule that passes over the entries `p` holds of, like those of busy lines (R110, R120). -/
def State.issueBut (s : State) (p : DrainRef → Bool) : State :=
  s.issuePicked (pickDrains (fun r => s.lineBusy r.line || p r) s.drainRoom s.drainQueue)

theorem State.drainIssue_eq (h : s.port.busy = false) : s.drainIssue = s.issueBut fun _ => false := by
  unfold State.issueBut
  simp only [Bool.or_false]
  exact if_neg (by simp [h])

theorem State.drainIssueBut_eq (h : s.port.busy = false) (w : WindowId) : s.drainIssueBut w = s.issueBut fun r => r.window == w :=
  if_neg (by simp [h])

/-- The rule applied to the entries that it does not pass over (R107, R110). -/
theorem State.issueBut_issuesFrom (p : DrainRef → Bool) {b u : State} (ho : b.outstanding = s.outstanding) (hi : b.issued = s.issued)
    (hu : u = { s.issueBut p with drainQueue := (s.issueBut p).drainQueue.filter (!p ·) }) :
    b.issuesFrom u (s.drainQueue.filter (!p ·)) := by
  intro slots ready hslots hready
  obtain ⟨hpick, hleft⟩ := pickDrains_picked (fun r => s.lineBusy r.line || p r) s.drainRoom s.drainQueue
  obtain ⟨-, -, -, hsub, -⟩ := pickDrains_spec (fun r => s.lineBusy r.line || p r) s.drainRoom s.drainQueue
  have hkeeps := pickDrains_keeps (fun r => s.lineBusy r.line || p r) (fun r => s.lineBusy r.line && !p r)
    (fun r h => by simp_all) s.drainRoom s.drainQueue
  have hroom : slots = s.drainRoom := by
    rw [hslots, State.drainRoom, State.drainCount, State.drainCount, ho]
    rfl
  have hbusy : ∀ l, u.lineBusy l = s.lineBusy l := fun l => by
    rw [hu]
    exact State.issuePicked_lineBusy s _ l
  have hentry : ∀ w l, u.committedEntry w l = (s.issueBut p).committedEntry w l := fun w l => by rw [hu]; rfl
  have hissued : u.issued = (s.issueBut p).issued := by rw [hu]
  have hqueue : u.drainQueue = (pickDrains (fun r => s.lineBusy r.line || p r) s.drainRoom s.drainQueue).2.filter (!p ·) := by
    rw [hu]
    rfl
  have hwait : ∀ r : DrainRef, (!s.lineBusy r.line && !p r) = !(s.lineBusy r.line || p r) := fun r => by simp
  have hr : ready = s.drainQueue.filter fun r => !(s.lineBusy r.line || p r) := by
    rw [hready, List.filter_filter]
    exact List.filter_congr fun r _ => by rw [hbusy, hwait]
  rw [← hroom, ← hr] at hpick hleft
  refine ⟨?_, ?_, ?_, ?_, fun d hd e he => ?_⟩
  · rw [ho, hu, ← hpick]
    rw [hroom]
    rfl
  · rw [hqueue]
    exact hsub.filter _
  · rw [hqueue, List.filter_filter, ← hleft, hroom]
    exact List.filter_congr fun r _ => by rw [hbusy, hwait]
  · rw [hqueue, List.filter_filter, List.filter_filter]
    simp only [hbusy]
    exact hkeeps
  · rw [← hpick, hroom] at hd
    rw [hentry] at he
    cases hs : s.committedEntry d.window d.line with
    | none =>
      rw [State.issueBut, State.issuePicked_committedEntry, hs] at he
      cases he
    | some f =>
      obtain ⟨h1, h2⟩ := State.issuePicked_issues hd hs
      obtain rfl : f.withStatus .issued = e := Option.some.inj (h1.symm.trans he)
      refine ⟨(Entry.withStatus_issued (Entry.isCommittedOf_iff.mp (State.committedEntry_some hs).2).2.2).1, ?_⟩
      rw [hissued, hi, Entry.withStatus_cells]
      exact h2

/-- What the rule leaves and does not pass over waits for its line or for a slot (R110). -/
theorem State.issueBut_settled (p : DrainRef → Bool) {u : State}
    (hu : u = { s.issueBut p with drainQueue := (s.issueBut p).drainQueue.filter (!p ·) }) : u.drainSettled := by
  subst hu
  intro d hd
  obtain ⟨hd, hp⟩ := List.mem_filter.mp hd
  have hbusy : (s.issueBut p).lineBusy d.line = s.lineBusy d.line := s.issuePicked_lineBusy _ _
  have hcount := s.issuePicked_count (pickDrains (fun r => s.lineBusy r.line || p r) s.drainRoom s.drainQueue)
  have hlen : (s.issueBut p).outstanding.length =
      s.outstanding.length + (pickDrains (fun r => s.lineBusy r.line || p r) s.drainRoom s.drainQueue).1.length := by
    simp [State.issueBut, State.issuePicked]
  rcases pickDrains_left _ _ _ d hd with h | h
  · refine .inl (hbusy.trans ?_)
    simpa [show p d = false by simpa using hp] using h
  · have hr : s.drainRoom = min (4 - s.drainCount) (16 - s.outstanding.length) := rfl
    refine .inr ?_
    show 4 ≤ (s.issueBut p).drainCount ∨ 16 ≤ (s.issueBut p).outstanding.length
    rw [hlen, h]
    have : (s.issueBut p).drainCount = s.drainCount + s.drainRoom := hcount.trans (by rw [h])
    omega

/-- An issue that passes over nothing leaves no reference of the queue out. -/
theorem State.issueBut_nothing (s : State) :
    (s.issueBut fun _ => false) =
      { s.issueBut (fun _ => false) with drainQueue := (s.issueBut fun _ => false).drainQueue.filter fun _ => !false } := by
  simp

theorem State.drainIssue_issuesFrom (h : s.port.busy = false) {b : State} (ho : b.outstanding = s.outstanding) (hi : b.issued = s.issued) :
    b.issuesFrom s.drainIssue s.drainQueue := by
  have := State.issueBut_issuesFrom (s := s) (fun _ => false) ho hi (State.issueBut_nothing s)
  simpa [State.drainIssue_eq h] using this

theorem State.drainIssue_settled (h : s.port.busy = false) : s.drainIssue.drainSettled := by
  rw [State.drainIssue_eq h]
  exact State.issueBut_settled _ (State.issueBut_nothing s)

/-! ### A drain write that completes (R112, R114) -/

theorem State.drainCompletion_found {l : Line} {w : WindowId} {pre post : List Outstanding} {e : Entry}
    (ho : s.outstanding = pre ++ .drain ⟨w, l⟩ :: post) (hpre : ∀ o ∈ pre, o.drains l = false) (hb : s.port.busy = false)
    (he : s.committedEntry w l = some e) :
    s.drainCompletion l .okay = ({ s with outstanding := pre ++ post } : State).drained w l ∧
      (e.errorMet = true → s.drainCompletion l .error = ({ s with outstanding := pre ++ post } : State).dropEntry w l) ∧
      (e.errorMet = false → s.drainCompletion l .error = ({ s with outstanding := pre ++ post } : State).firstError w l) := by
  have hself : (Outstanding.drain ⟨w, l⟩).drains l = true := by simp [Outstanding.drains]
  have hfind : s.outstanding.find? (·.drains l) = some (.drain ⟨w, l⟩) := by
    rw [ho, List.find?_append, List.find?_eq_none.mpr fun o h => by simp [hpre o h]]
    simp [hself]
  have herase : s.outstanding.eraseP (·.drains l) = pre ++ post := by
    rw [ho, List.eraseP_append_right _ fun o h => by simp [hpre o h]]
    simp [hself]
  have hbusy : ¬ s.port.busy = true := by simp [hb]
  have he' : ({ s with outstanding := pre ++ post } : State).committedEntry w l = some e := he
  unfold State.drainCompletion
  rw [hfind, herase]
  dsimp only
  rw [he']
  exact ⟨if_neg hbusy, fun hm => (if_neg hbusy).trans (if_pos hm), fun hm => (if_neg hbusy).trans (if_neg (by simp [hm]))⟩

/-- The drain write that completes was of no busy line's host-origin request (R111). -/
theorem State.lineBusy_completed {l m : Line} {w : WindowId} {pre post : List Outstanding} {t : State}
    (ho : s.outstanding = pre ++ .drain ⟨w, l⟩ :: post) (ht : t.outstanding = pre ++ post) (hw : t.waitList = s.waitList) :
    t.lineBusy m = s.lineBusy m := by
  rw [State.lineBusy_eq, State.lineBusy_eq, ho, ht, hw]
  simp [Outstanding.hostOf]

/-! ### The CLOSE that comes with the completion (R120) -/

/-- Each command that writes code 2 to the command register is a CLOSE (R156, R162). -/
theorem exec_givesClose {c : Instr} (h : givesClose c = true) : exec c s = .next (s.command .closeW) := by
  cases c
  case closeWindow => rfl
  case undefinedCommand code =>
    obtain rfl : code = 2 := by simpa [givesClose] using h
    rfl
  case registerWrite o d =>
    simp only [givesClose, Bool.and_eq_true, beq_iff_eq] at h
    obtain ⟨⟨rfl, hlane⟩, hv⟩ := h
    have hcode : (s.mergeWrite .command d).extractLsb' 0 8 = 2 := by
      rw [← hv]
      refine BitVec.eq_of_getLsbD_eq fun i hi => ?_
      have h0 : i / 8 = 0 := by omega
      have := s.mergeWrite_getLsbD .command d i (by omega)
      rw [h0, hlane, if_pos rfl] at this
      simpa [BitVec.getLsbD_extractLsb', hi] using this
    show Host.Outcome.next (s.commandWrite ((s.mergeWrite .command d).extractLsb' 0 8)) = _
    rw [hcode]
    rfl
  all_goals simp [givesClose] at h

/-- No COMMITTED entry of the line, and no reference to one in the drain queue. -/
def State.notCommitted (s : State) (w : WindowId) (l : Line) : Prop :=
  (∀ e ∈ s.pool, e.isCommittedOf w l = false) ∧ (⟨w, l⟩ : DrainRef) ∉ s.drainQueue

theorem State.notCommitted.committedEntry {w : WindowId} {l : Line} (h : s.notCommitted w l) : s.committedEntry w l = none :=
  List.find?_eq_none.mpr fun e he => by simp [h.1 e he]

theorem notCommitted_keeps (w : WindowId) (l : Line) : StoreKeeps (·.notCommitted w l) where
  notify _ _ _ _ _ h := h
  update _ _ _ _ h := h
  allocate t u m _ _ _ h := by
    refine ⟨fun e he => ?_, h.2⟩
    rcases List.mem_append.mp he with he | he
    · exact h.1 e he
    · obtain rfl := List.mem_singleton.mp he
      simp [Entry.isCommittedOf, Entry.isPending]
  merge t u r _ h := by
    refine ⟨fun e he => ?_, h.2⟩
    rw [State.merge_pool] at he
    obtain ⟨f, hf, rfl⟩ := List.mem_map.mp he
    exact (f.mergedWith_isCommittedOf _ u w r l).trans (h.1 f hf)
  ports t u hk h := by
    obtain ⟨-, hp, hd, -⟩ := hk
    exact ⟨hp ▸ h.1, hd ▸ h.2⟩
  issue t waits k h := by
    refine ⟨fun e he => ?_, fun hm => h.2 ((pickDrains_spec waits k t.drainQueue).2.2.2.1.subset hm)⟩
    obtain ⟨f, hf, rfl⟩ := List.mem_map.mp he
    split
    · exact (f.withStatus_isCommittedOf _ w l).trans (h.1 f hf)
    · exact h.1 f hf
  free t p h := ⟨fun e he => h.1 e (List.mem_filter.mp he).1, fun hm => h.2 (List.mem_filter.mp hm).1⟩
  requeue t u m hc h := by
    obtain ⟨e, he⟩ := Option.isSome_iff_exists.mp hc
    obtain ⟨hmem, hof⟩ := State.committedEntry_some he
    have hne : ¬ (u = w ∧ m = l) := by
      rintro ⟨rfl, rfl⟩
      rw [h.1 e hmem] at hof
      cases hof
    refine ⟨fun f hf => ?_, fun hm => ?_⟩
    · obtain ⟨g, hg, rfl⟩ := List.mem_map.mp hf
      split
      · next hfo =>
        obtain ⟨hw, hl, -⟩ := Entry.isCommittedOf_iff.mp hfo
        refine Bool.eq_false_iff.mpr fun hco => ?_
        obtain ⟨hw', hl', -⟩ := Entry.isCommittedOf_iff.mp hco
        exact hne ⟨hw.symm.trans hw', hl.symm.trans hl'⟩
      · exact h.1 g hg
    · rcases List.mem_cons.mp hm with he | hm
      · cases he
        exact hne ⟨rfl, rfl⟩
      · exact h.2 hm
  timedOut _ _ h := h
  discard _ _ _ h := h
  close _ _ _ _ h := h
  turnOff _ _ _ h := h
  drop _ _ h := h
  fault _ _ h := h

/-- Once it frees the entry of a line, a CLOSE(w, DISCARD) leaves none of it (R16, R120). -/
theorem State.closeTo_notCommitted {w : WindowId} {l : Line} (h : (s.window w).state ≠ .off)
    (hf : (s.freeEntries (s.discardsEntry w)).notCommitted w l) : (s.closeTo w .discard).notCommitted w l := by
  have k := notCommitted_keeps w l
  have hd := k.discard (s.freeEntries (s.discardsEntry w)) w h hf
  exact k.closeEvent _ _ _ (k.testOff w (k.close _ w .discard (by simpa [Window.discarded] using h) hd))

/-- A first error of an entry, the issue rule yet to be applied (R115). -/
theorem State.firstError_eq (s : State) (w : WindowId) (l : Line) :
    s.firstError w l = if s.closesNext w then (s.requeue w l).drainIssueBut w else (s.requeue w l).drainIssue := rfl

/-- The entry is QUEUED, with its error met, and keeps its bytes (R115). -/
theorem State.requeue_committedEntry {w : WindowId} {l : Line} {e : Entry} (he : s.committedEntry w l = some e) :
    (s.requeue w l).committedEntry w l = some { e with gen := .committed .queued true } := by
  rw [State.committedEntry_map (s := s) _ w l rfl, he]
  · exact congrArg some (if_pos (State.committedEntry_some he).2)
  · intro f
    split
    · next hf =>
      obtain ⟨hw, hl, -⟩ := Entry.isCommittedOf_iff.mp hf
      exact Eq.trans (b := true) (by simp [Entry.isCommittedOf, Entry.isPending, hw, hl]) hf.symm
    · rfl

/-- All the COMMITTED entries of the line are QUEUED (R115). -/
theorem State.requeue_queued {w : WindowId} {l : Line} {e : Entry} (he : e ∈ (s.requeue w l).pool) (hc : e.isCommittedOf w l = true) :
    e.isQueued = true := by
  obtain ⟨f, hf, rfl⟩ := List.mem_map.mp he
  split
  · rfl
  · next hn => rw [if_neg hn] at hc; exact absurd hc hn

/-- The issue rule that passes over the entries of `w` leaves the COMMITTED entries of `w` as they were (R120). -/
theorem State.issueBut_entry {p : DrainRef → Bool} {w : WindowId} (hp : ∀ l, p ⟨w, l⟩ = true) {e : Entry}
    (he : e ∈ (s.issueBut p).pool) {l : Line} (hc : e.isCommittedOf w l = true) : e ∈ s.pool := by
  obtain ⟨f, hf, rfl⟩ := List.mem_map.mp he
  split
  · next hany =>
    obtain ⟨r, hr, hfr⟩ := List.any_eq_true.mp hany
    rw [if_pos hany, Entry.withStatus_isCommittedOf] at hc
    obtain ⟨hw, -, -⟩ := Entry.isCommittedOf_iff.mp hc
    obtain ⟨hw', -, -⟩ := Entry.isCommittedOf_iff.mp hfr
    have hno := (pickDrains_spec (fun r => s.lineBusy r.line || p r) s.drainRoom s.drainQueue).2.1 r hr
    obtain ⟨rw', rl⟩ := r
    obtain rfl : w = rw' := hw.symm.trans hw'
    simp [hp rl] at hno
  · exact hf

/-- The CLOSE(w, DISCARD) that comes next frees the QUEUED entries of its FAULTED window (R16, R120). -/
theorem State.close_frees {w : WindowId} {l : Line} (hst : (s.window w).state = .faulted)
    (hq : ∀ e ∈ s.pool, e.isCommittedOf w l = true → e.isQueued = true) (hs : (s.committedEntry w l).isSome = true) :
    (s.closeTo w .discard).notCommitted w l := by
  have gone : ∀ e ∈ s.pool, e.isCommittedOf w l = true → s.discardsEntry w e = true := fun e he hc => by
    simp [State.discardsEntry, hst, hq e he hc, (Entry.isCommittedOf_iff.mp hc).1]
  refine State.closeTo_notCommitted (by simp [hst]) ⟨fun e he => ?_, fun hm => ?_⟩
  · obtain ⟨he, hd⟩ := List.mem_filter.mp he
    refine Bool.eq_false_iff.mpr fun hc => ?_
    simp [gone e he hc] at hd
  · obtain ⟨-, hno⟩ := List.mem_filter.mp hm
    obtain ⟨e, he⟩ := Option.isSome_iff_exists.mp hs
    obtain ⟨hmem, hc⟩ := State.committedEntry_some he
    simp only [Bool.not_eq_true', List.any_eq_false, Bool.and_eq_true, not_and] at hno
    exact hno e hmem (gone e hmem hc) hc

theorem State.closesNext_iff {w : WindowId} :
    s.closesNext w = true ↔ (s.window w).state = .faulted ∧ s.port.argument.window = w ∧ s.port.argument.mode = .discard ∧
      ∃ c rest, s.pending = c :: rest ∧ givesClose c = true := by
  have hhead : s.pending.head?.any givesClose = true ↔ ∃ c rest, s.pending = c :: rest ∧ givesClose c = true := by
    cases s.pending <;> simp
  simp only [State.closesNext, Bool.and_eq_true, beq_iff_eq, hhead, and_assoc]

/-- The step behind such a completion takes the CLOSE (R120; log entry 31). -/
theorem step_closesNext {w : WindowId} (h : s.closesNext w = true) (hb : s.port.busy = false) :
    ∃ rest, step s = .next (complete .closeW (.done, ({ s with pending := rest } : State).closeTo w .discard)) := by
  obtain ⟨hst, hw, hm, c, rest, hp, hc⟩ := State.closesNext_iff.mp h
  refine ⟨rest, ?_⟩
  unfold step
  rw [hp]
  dsimp only
  rw [exec_givesClose hc, State.command_free (s := { s with pending := rest }) hb]
  have hres : ({ s with pending := rest } : State).closeWindow w .discard =
      (.done, ({ s with pending := rest } : State).closeTo w .discard) := by
    unfold State.closeWindow
    rw [show (({ s with pending := rest } : State).window w).state = .faulted from hst]
  show Host.Outcome.next (complete .closeW (({ s with pending := rest } : State).closeWindow s.port.argument.window s.port.argument.mode)) = _
  rw [hw, hm, hres]

/-- The entry at the head of the queue is issued where its line is not busy and a slot is free (R107, R110). -/
theorem State.drainIssue_head (hb : s.port.busy = false) {w : WindowId} {l : Line} {q : List DrainRef} {e : Entry}
    (hq : s.drainQueue = ⟨w, l⟩ :: q) (he : s.committedEntry w l = some e) (hroom : 0 < s.drainRoom) (hl : s.lineBusy l = false) :
    s.drainIssue.committedEntry w l = some (e.withStatus .issued) ∧ Outstanding.drain ⟨w, l⟩ ∈ s.drainIssue.outstanding ∧
      BusRequest.drain l (e.cells.map fun c => (c.isSome, c.getD 0)) ∈ s.drainIssue.issued.drop s.issued.length := by
  obtain ⟨hpick, -⟩ := pickDrains_picked (fun r => s.lineBusy r.line || false) s.drainRoom s.drainQueue
  have hmem : (⟨w, l⟩ : DrainRef) ∈ (pickDrains (fun r => s.lineBusy r.line || false) s.drainRoom s.drainQueue).1 := by
    rw [hpick, hq]
    obtain ⟨k, hk⟩ := Nat.exists_eq_add_of_lt hroom
    rw [hk]
    simp [hl]
  rw [State.drainIssue_eq hb]
  obtain ⟨h1, h2⟩ := State.issuePicked_issues (d := ⟨w, l⟩) hmem he
  exact ⟨h1, List.mem_append_right _ (List.mem_map_of_mem hmem), h2⟩

/-- The entry at the head of the queue waits there where its line is busy (R110). -/
theorem State.drainIssue_headWaits (hb : s.port.busy = false) {w : WindowId} {l : Line} {q : List DrainRef}
    (hq : s.drainQueue = ⟨w, l⟩ :: q) (hl : s.lineBusy l = true) :
    s.drainIssue.committedEntry w l = s.committedEntry w l ∧ s.drainIssue.drainQueue.head? = some ⟨w, l⟩ := by
  have hno : (⟨w, l⟩ : DrainRef) ∉ (pickDrains (fun r => s.lineBusy r.line || false) s.drainRoom s.drainQueue).1 := fun hm => by
    have := (pickDrains_spec _ _ _).2.1 _ hm
    simp [hl] at this
  rw [State.drainIssue_eq hb]
  refine ⟨State.issuePicked_committedEntry_other hno, ?_⟩
  show (pickDrains (fun r => s.lineBusy r.line || false) s.drainRoom s.drainQueue).2.head? = _
  rw [hq]
  cases s.drainRoom <;> simp [pickDrains, hl]

/-- A completed drain write leaves a free slot (R108, R110). -/
theorem State.withinLimits.drainRoom (h : s.withinLimits) {pre post : List Outstanding} {r : DrainRef}
    (ho : s.outstanding = pre ++ .drain r :: post) {t : State} (ht : t.outstanding = pre ++ post) : 0 < t.drainRoom := by
  obtain ⟨-, -, hhost, hdrain⟩ := h
  have hlen := List.length_eq_countP_add_countP (fun o : Outstanding => o.isHost) (l := s.outstanding)
  have hd : s.drainCount = t.drainCount + 1 := by
    unfold State.drainCount
    rw [ho, ht]
    simp only [List.countP_append, List.countP_cons, Outstanding.isHost, Bool.not_false, if_true]
    omega
  have hl : s.outstanding.length = t.outstanding.length + 1 := by
    rw [ho, ht]
    simp only [List.length_append, List.length_cons]
    omega
  have hsum : s.outstanding.length = s.hostCount + s.drainCount := by
    rw [hlen]
    simp [State.hostCount, State.drainCount]
  have hroom : t.drainRoom = min (4 - t.drainCount) (16 - t.outstanding.length) := rfl
  omega

/-- Settles O37: the issue rule (`State.issueBut_issuesFrom`) on the queue with the entry at its head, and the CLOSE that may come next. -/
theorem firstDrainErrors : Obligations.FirstDrainErrors := by
  intro s l w pre post e hlim ho hpre hb he hm
  obtain ⟨-, -, hfirst⟩ := State.drainCompletion_found ho hpre hb he
  have hexec : exec (.drainCompletion l .error) s = .next (({ s with outstanding := pre ++ post } : State).firstError w l) :=
    congrArg Host.Outcome.next (hfirst hm)
  rw [hexec, State.firstError_eq]
  obtain ⟨r, hr⟩ : ∃ r, r = ({ s with outstanding := pre ++ post } : State).requeue w l := ⟨_, rfl⟩
  have hentry : r.committedEntry w l = some { e with gen := .committed .queued true } := by
    rw [hr]
    exact State.requeue_committedEntry he
  have hqueue : r.drainQueue = ⟨w, l⟩ :: s.drainQueue := by rw [hr]; rfl
  have hbusy : r.port.busy = false := by rw [hr]; exact hb
  have hline : r.lineBusy l = s.lineBusy l := State.lineBusy_completed ho (by rw [hr]; rfl) (by rw [hr]; rfl)
  have houtst : ({ s with outstanding := pre ++ post } : State).outstanding = r.outstanding := by rw [hr]; rfl
  have hissued : ({ s with outstanding := pre ++ post } : State).issued = r.issued := by rw [hr]; rfl
  rw [← hr, show ({ s with outstanding := pre ++ post } : State).closesNext w = s.closesNext w from rfl]
  cases hcl : s.closesNext w with
  | false =>
    rw [if_neg (by simp)]
    refine ⟨r.drainIssue, rfl, ?_, ?_, ?_, ?_, fun _ => ⟨?_, State.drainIssue_settled hbusy, fun hl => ?_, fun hl => ?_⟩,
      fun h => by cases h⟩
    · simp [hr, State.requeue]
    · simp [hr, State.requeue]
    · simp [hr, State.requeue]
    · simp [hr, State.requeue]
    · rw [← hqueue]
      exact State.drainIssue_issuesFrom hbusy houtst hissued
    · have hrs : r.issued = s.issued := hissued.symm
      rw [← hrs]
      exact State.drainIssue_head hbusy hqueue hentry (hlim.drainRoom ho houtst.symm) (hline.trans hl)
    · obtain ⟨h1, h2⟩ := State.drainIssue_headWaits hbusy hqueue (hline.trans hl)
      exact ⟨h1.trans hentry, h2⟩
  | true =>
    rw [if_pos rfl]
    have hbut := State.drainIssueBut_eq hbusy w
    have hkept : (r.drainIssueBut w).committedEntry w l = some { e with gen := .committed .queued true } := by
      rw [hbut, State.issueBut, State.issuePicked_committedEntry_other fun hm => ?_, hentry]
      have := (pickDrains_spec _ _ _).2.1 _ hm
      simp at this
    have hnext : (r.drainIssueBut w).closesNext w = true := by
      rw [← hcl, hr]
      simp [State.closesNext, State.requeue, State.window]
    have hqueued : ∀ f ∈ (r.drainIssueBut w).pool, f.isCommittedOf w l = true → f.isQueued = true := fun f hf hc => by
      rw [hbut] at hf
      have := State.issueBut_entry (fun _ => by simp) hf hc
      rw [hr] at this
      exact State.requeue_queued this hc
    have hrest : (r.drainQueue.filter fun d => !(d.window == w)) = s.drainQueue.filter (·.window != w) := by
      rw [hqueue]
      simp [bne]
    refine ⟨r.drainIssueBut w, rfl, by simp [hr, State.requeue], by simp [hr, State.requeue], by simp [hr, State.requeue],
      by simp [hr, State.requeue], (fun h => by cases h), fun _ => ⟨hkept, ?_, fun u hu => ?_, ?_⟩⟩
    · rw [(r.drainIssueBut_spec w).1, hqueue]
      simp
    · rw [hbut] at hu
      refine ⟨?_, State.issueBut_settled (s := r) (fun d => d.window == w) hu⟩
      rw [← hrest]
      exact State.issueBut_issuesFrom (s := r) (fun d => d.window == w) houtst hissued hu
    · obtain ⟨rest, hstep⟩ := step_closesNext hnext (by simpa using hbusy)
      have hgone : (({ r.drainIssueBut w with pending := rest } : State).closeTo w .discard).notCommitted w l :=
        State.close_frees (s := { r.drainIssueBut w with pending := rest }) (State.closesNext_iff.mp hnext).1 hqueued
          (Option.isSome_iff_exists.mpr ⟨_, hkept⟩)
      have hleft := (notCommitted_keeps w l).ports _ _ (complete_keepsStore .closeW (.done, _)) hgone
      refine ⟨_, hstep, ?_, hleft.committedEntry, hleft.2⟩
      simp [complete, hr, State.requeue]

end Sys2Proof.Machine
end

section
/-! What the close of an event leaves of the store, and what it does to the oldest held request (R39, R72 to R76). -/

namespace Sys2Proof.Machine

variable {s : State}

/-! ### The store -/

/-- A property of the windows and the pool that steering keeps is kept by each update of a pass. -/
theorem SteeringKeeps.passKeeps {P : State → Prop} (k : SteeringKeeps P)
    (hP : ∀ t u : State, u.windows = t.windows → u.pool = t.pool → P t → P u) : PassKeeps P where
  toSteeringKeeps := k
  rehold _ _ _ _ _ _ := hP _ _ rfl rfl
  answer _ _ _ _ _ := hP _ _ rfl rfl
  send _ _ _ _ _ _ _ _ := hP _ _ rfl rfl

/-- Such a property is kept by the close of an event where the issue rule keeps it. -/
theorem SteeringKeeps.closeEvent {P : State → Prop} (k : SteeringKeeps P)
    (hP : ∀ t u : State, u.windows = t.windows → u.pool = t.pool → P t → P u) (hd : ∀ t : State, P t → P t.drainIssue) (d snt : Bool)
    (trig : List Nat) (hs : P s) : P (s.closeEvent d snt trig) :=
  State.closeEvent_keeps (fun t h hm _ => t.reclassify_keeps (k.passKeeps hP) h hm) (fun t => hP t _ rfl rfl) hd s d snt trig hs

/-- The windows and lines of the COMMITTED entries, in the order of the pool. -/
def State.committedKeys (s : State) : List (WindowId × Line × Bool) := (s.pool.map Entry.key).filter (!·.2.2)

theorem State.committedLines_eq (s : State) (w : WindowId) :
    s.committedLines w = (s.committedKeys.filter (·.1 == w)).map (·.2.1) := by
  simp only [State.committedLines, State.committedSet, State.committedKeys, List.filter_map, List.filter_filter, List.map_map]
  rfl

theorem State.committedKeys_congr {t : State} (h : t.pool.map Entry.key = s.pool.map Entry.key) : t.committedKeys = s.committedKeys :=
  congrArg (List.filter _) h

/-- Steering adds no COMMITTED entry and removes none (R58). -/
theorem committedKeys_keeps (K : List (WindowId × Line × Bool)) : SteeringKeeps (·.committedKeys = K) where
  notify _ _ _ _ _ h := h
  update _ _ _ _ h := h
  allocate t w l _ _ _ h := by
    rw [← h]
    simp [State.committedKeys, State.allocate, Entry.key, Entry.isPending]
  merge t w r _ h := (State.committedKeys_congr (t.merge_keys w r)).trans h

/-- The close of an event leaves the committed sets their lines (R25, R58). -/
theorem State.closeEvent_committedLines (d snt : Bool) (trig : List Nat) (w : WindowId) :
    (s.closeEvent d snt trig).committedLines w = s.committedLines w := by
  rw [State.committedLines_eq, State.committedLines_eq]
  have := (committedKeys_keeps s.committedKeys).closeEvent (s := s) (fun t u _ hp h => by rw [State.committedKeys, hp]; exact h)
    (fun t h => (State.committedKeys_congr t.drainIssue_keys).trans h) d snt trig rfl
  rw [this]

/-- A change of entries one by one that leaves the PENDING entries of the window leaves its pending list. -/
theorem State.pendingList_map {t : State} {w : WindowId} (f : Entry → Entry) (ht : t.pool = s.pool.map f)
    (hw : ∀ e, (f e).window = e.window ∧ (f e).isPending = e.isPending) (hf : ∀ e, e.window = w → e.isPending = true → f e = e) :
    t.pendingList w = s.pendingList w := by
  have hcomp : ((fun e : Entry => e.window == w && e.isPending) ∘ f) = fun e => e.window == w && e.isPending :=
    funext fun e => by
      obtain ⟨h1, h2⟩ := hw e
      simp only [Function.comp_apply, h1, h2]
  unfold State.pendingList
  rw [ht, List.filter_map, hcomp, List.map_congr_left (g := id) fun e he => ?_, List.map_id]
  have := (List.mem_filter.mp he).2
  simp only [Bool.and_eq_true, beq_iff_eq] at this
  exact hf e this.1 this.2

theorem State.issuePicked_pendingList (s : State) (x : List DrainRef × List DrainRef) (w : WindowId) :
    (s.issuePicked x).pendingList w = s.pendingList w := by
  refine State.pendingList_map _ rfl (fun e => ?_) fun e _ hp => ?_
  · split
    · exact ⟨e.withStatus_window _, e.withStatus_isPending _⟩
    · exact ⟨rfl, rfl⟩
  · refine if_neg fun hany => ?_
    obtain ⟨r, -, hc⟩ := List.any_eq_true.mp hany
    rw [(Entry.isCommittedOf_iff.mp hc).2.2] at hp
    cases hp

@[simp] theorem State.drainIssue_pendingList (s : State) (w : WindowId) : s.drainIssue.pendingList w = s.pendingList w := by
  unfold State.drainIssue
  split
  · rfl
  · exact s.issuePicked_pendingList _ w

/-- Steering stages nothing into a window that is not ACTIVE (R57, R58). -/
theorem pendingList_keeps (w : WindowId) (L : List Entry) :
    SteeringKeeps fun t => (t.window w).state ≠ .active ∧ t.pendingList w = L where
  notify _ _ _ _ _ h := h
  update t u f hf h := by
    have hne : w ≠ u := fun e => h.1 (e ▸ hf.active)
    exact ⟨by rw [State.updWindow_other t f hne]; exact h.1, h.2⟩
  allocate t u l ha _ _ h := by
    have hne : u ≠ w := fun e => h.1 (e ▸ ha)
    refine ⟨h.1, ?_⟩
    rw [← h.2, State.pendingList, State.allocate_pool, List.filter_append]
    simp [State.pendingList, State.freshEntry, hne]
  merge t u r ha h := by
    have hne : u ≠ w := fun e => h.1 (e ▸ ha)
    refine ⟨h.1, (State.pendingList_map _ (t.merge_pool u r) (fun e => ?_) fun e he _ => ?_).trans h.2⟩
    · obtain ⟨h1, -, h3⟩ := e.mergedWith_keeps (t.window u) u r
      exact ⟨h1, by unfold Entry.isPending; rw [h3]⟩
    · exact if_neg fun hc => hne ((Entry.isPendingOf_iff.mp hc).1.symm.trans he)

/-- The close of an event leaves the pending list of a window that is not ACTIVE (R57). -/
theorem State.closeEvent_pendingList {w : WindowId} (h : (s.window w).state ≠ .active) (d snt : Bool) (trig : List Nat) :
    (s.closeEvent d snt trig).pendingList w = s.pendingList w :=
  ((pendingList_keeps w (s.pendingList w)).closeEvent (s := s)
    (fun t u hw hp h => by rw [State.pendingList, hp, State.window, hw]; exact h)
    (fun t h => by simpa using h) d snt trig ⟨h, rfl⟩).2

theorem State.closeEvent_scheduled (d snt : Bool) (trig : List Nat) (w : WindowId) :
    ((s.closeEvent d snt trig).window w).scheduled = (s.window w).scheduled := by
  have h := (s.closeEvent_window d snt trig w).1
  dsimp only at h
  rw [h]
  rfl

/-- An event that calls for the drain engine closes with its issue rule (R110). -/
theorem State.closeEvent_settled (hb : s.port.busy = false) (snt : Bool) (trig : List Nat) :
    (s.closeEvent true snt trig).drainSettled := by
  have hport := s.closeEvent_port true snt trig
  have : ∃ u : State, s.closeEvent true snt trig = u.drainIssue := ⟨_, by unfold State.closeEvent; exact if_pos rfl⟩
  obtain ⟨u, hu⟩ := this
  rw [hu] at hport ⊢
  exact State.drainIssue_settled (by rw [State.drainIssue_port] at hport; rw [hport]; exact hb)

/-- Such an event finds nothing held: the issue rule is all (R110). -/
theorem State.closeEvent_drains (h : s.holdQueue = []) (trig : List Nat) : s.closeEvent true false trig = s.drainIssue :=
  s.closeEvent_noneHeld true false trig h

/-! ### The oldest held request -/

/-- What the classification afresh of a held request decides (R73, R76). -/
def State.judged (s : State) (h : Held) : Steered :=
  classify s h.order h.request ((s.inflightAt h.order).bind (·.window)) h.exhaustionMet

/-- The pass comes to a triggered request whose reason is no longer in force (R75). -/
theorem Pass.reach_eq {p : Pass} {h : Held} (hfind : p.state.holdQueue.find? (·.order == h.order) = some h) (ht : h.order ∈ p.trig)
    (hf : p.state.inForce h = false) :
    p.reach h.order =
      { state := p.state.reclassify h
        trig := p.trig ++
          (if (p.state.judged h).verdict.leaves then (p.state.reclassify h).orderBehind h.request.initiator h.order else []) ++
            ((p.state.judged h).wakes (p.state.reclassify h)).filter (h.order < ·)
        again := p.again ++ ((p.state.judged h).wakes (p.state.reclassify h)).filter (· < h.order)
        sent := p.sent || (p.state.judged h).verdict.sends } := by
  unfold Pass.reach
  rw [if_pos (by simpa using ht), hfind]
  dsimp only
  rw [if_neg (by simp [hf])]
  rfl

/-- A pass passes over a request that is not triggered, not held, or whose reason is in force (R72). -/
theorem Pass.reach_over {p : Pass} {n : Nat} (h : n ∈ p.trig → ∀ g ∈ p.state.holdQueue, g.order = n → p.state.inForce g = true) :
    p.reach n = p := by
  unfold Pass.reach
  split
  · next ht =>
    split
    · rfl
    · next g hg =>
      exact if_pos (h (by simpa using ht) g (List.mem_of_find?_eq_some hg) (by simpa using List.find?_some hg))
  · rfl

/-- What a pass has handed over stays handed over. -/
theorem Pass.reach_sent (p : Pass) (n : Nat) (h : p.sent = true) : (p.reach n).sent = true := by
  unfold Pass.reach
  split
  · split
    · exact h
    · split
      · exact h
      · simp [h]
  · exact h

/-- A property of the state and of what was handed over, kept by each further classification. -/
structure Pass.Keeps (P : State → Prop) (p : Pass) (b : Bool) : Prop where
  state : P p.state
  sent : b = true → p.sent = true

section
variable {P : State → Prop} (k : ∀ t g, g ∈ t.holdQueue → t.inForce g = false → P t → P (t.reclassify g)) {b : Bool}

include k in
theorem Pass.Keeps.foldl (l : List Nat) {p : Pass} (hp : p.Keeps P b) : (l.foldl Pass.reach p).Keeps P b := by
  induction l generalizing p with
  | nil => exact hp
  | cons n l ih => exact ih ⟨Pass.reach_keeps k p n hp.state, fun hb => p.reach_sent n (hp.sent hb)⟩

include k in
theorem Pass.Keeps.runAll (m : Nat) {p : Pass} (hp : p.Keeps P b) : (Pass.runAll m p).Keeps P b := by
  induction m generalizing p with
  | zero => exact hp
  | succ m ih =>
    have hrun : p.run.Keeps P b := hp.foldl k _
    unfold Pass.runAll
    dsimp only
    split
    · exact hrun
    · exact ih ⟨hrun.state, hrun.sent⟩

/-- The pass leaves the requests that are not triggered. -/
theorem Pass.foldl_over (l : List Nat) {p : Pass} (h : ∀ n ∈ l, n ∉ p.trig) : l.foldl Pass.reach p = p := by
  induction l with
  | nil => rfl
  | cons n l ih =>
    rw [List.foldl_cons, Pass.reach_over fun ht => absurd ht (h n List.mem_cons_self)]
    exact ih fun m hm => h m (List.mem_cons_of_mem _ hm)

include k in
/-- The oldest of the triggered requests is the first that the passes come to: its reason no longer in force, it is classified afresh;
what the further classifications keep then holds at the end (R72, R75). -/
theorem State.reexamine_first {h : Held} {pre q : List Held} (hq : s.holdQueue = pre ++ h :: q) {trig : List Nat}
    (hpre : ∀ g ∈ pre, g.order ∉ trig) (ht : h.order ∈ trig) (hf : s.inForce h = false) (hP : P (s.reclassify h))
    (hb : b = (s.judged h).verdict.sends) : (s.reexamine trig).Keeps P b := by
  have hfind : s.holdQueue.find? (·.order == h.order) = some h := by
    rw [hq, List.find?_append, List.find?_eq_none.mpr fun g hg => by simp [show g.order ≠ h.order from fun e => hpre g hg (e ▸ ht)]]
    simp
  have hfirst : (Pass.reach ⟨s, trig, [], false⟩ h.order).Keeps P b := by
    rw [Pass.reach_eq (p := ⟨s, trig, [], false⟩) hfind ht hf]
    exact ⟨hP, fun h => by simpa [hb] using h⟩
  have hover : ∀ n ∈ pre.map (·.order), n ∉ trig := fun n hn => by
    obtain ⟨g, hg, rfl⟩ := List.mem_map.mp hn
    exact hpre g hg
  have hrun : (Pass.run ⟨s, trig, [], false⟩).Keeps P b := by
    unfold Pass.run
    dsimp only
    rw [hq, List.map_append, List.foldl_append, Pass.foldl_over (p := ⟨s, trig, [], false⟩) _ hover]
    exact hfirst.foldl k _
  unfold State.reexamine Pass.runAll
  dsimp only
  split
  · exact hrun
  · exact Pass.Keeps.runAll k _ ⟨hrun.state, hrun.sent⟩

include k in
/-- So it is at the close of the event, where the issue rules keep it too (R109, R110). -/
theorem State.closeEvent_first (hi : ∀ t, P t → P t.issueHost) (hd : ∀ t, P t → P t.drainIssue) {h : Held} {pre q : List Held}
    (hq : s.holdQueue = pre ++ h :: q) {trig : List Nat} (hpre : ∀ g ∈ pre, g.order ∉ trig) (ht : h.order ∈ trig)
    (hf : s.inForce h = false) (hP : P (s.reclassify h)) (d snt : Bool) : P (s.closeEvent d snt trig) := by
  have hp := (State.reexamine_first k hq hpre ht hf hP rfl).state
  unfold State.closeEvent
  dsimp only
  split <;> split
  · exact hd _ (hi _ hp)
  · exact hd _ hp
  · exact hi _ hp
  · exact hp

end

/-! ### An answered request stays so -/

/-- Only the answer of its own place changes what is answered (R48). -/
theorem State.answered_congr {t : State} {n : Nat} {i : Initiator} {a : AnswerForm} (h : s.answered n i a)
    (ha : ∀ x ∈ s.answers, x ∈ t.answers)
    (he : ∀ e ∈ s.inflight, e.order = n → e.status = .ready a →
      (∃ f ∈ t.inflight, f.order = n ∧ f.request = e.request ∧ f.status = .ready a) ∨ ⟨n, e.request.initiator, a⟩ ∈ t.answers) :
    t.answered n i a := by
  rcases h with h | ⟨e, hm, ho, hi, hs⟩
  · exact .inl (ha _ h)
  · rcases he e hm ho hs with ⟨f, hf, h1, h2, h3⟩ | hleft
    · exact .inr ⟨f, hf, h1, h2 ▸ hi, h3⟩
    · exact .inl (hi ▸ hleft)

theorem State.answered.setStatus {n m : Nat} {i : Initiator} {a : AnswerForm} (h : s.answered n i a) (hne : m ≠ n) (st : Status) :
    (s.setStatus m st).answered n i a := by
  refine State.answered_congr h (fun x hx => hx) fun e he ho hs => .inl ⟨e, ?_, ho, rfl, hs⟩
  rw [State.setStatus_inflight]
  exact List.mem_map.mpr ⟨e, he, if_neg (by omega)⟩

theorem State.answered.setCapture {n m : Nat} {i : Initiator} {a : AnswerForm} (h : s.answered n i a) (hne : m ≠ n)
    (cap : Option (List (Option Byte))) : (s.setCapture m cap).answered n i a := by
  refine State.answered_congr h (fun x hx => hx) fun e he ho hs => .inl ⟨e, ?_, ho, rfl, hs⟩
  rw [State.setCapture_inflight]
  exact List.mem_map.mpr ⟨e, he, if_neg (by omega)⟩

theorem State.answered.depart {n : Nat} {i : Initiator} {a : AnswerForm} (h : s.answered n i a) (j : Initiator) :
    (s.depart j).answered n i a := by
  refine State.answered_congr h (fun x hx => ?_) fun e he ho hs => ?_
  · rw [State.depart_answers]
    exact List.mem_append_left _ hx
  · rw [State.depart_inflight, State.depart_answers]
    rcases departures_mem j s.inflight he with hm | ⟨b, hb, hm⟩
    · exact .inl ⟨e, hm, ho, rfl, hs⟩
    · obtain rfl : b = a := Status.ready.inj (hb.symm.trans hs)
      exact .inr (List.mem_append_right _ (ho ▸ hm))

/-- A request once answered, and no longer held, stays so (R48, R76). -/
theorem hasLeft_keeps (n : Nat) (i : Initiator) (a : AnswerForm) : PassKeeps fun t => t.hasLeft n ∧ t.answered n i a where
  notify _ _ _ _ _ h := h
  update _ _ _ _ h := h
  allocate _ _ _ _ _ _ h := h
  merge _ _ _ _ h := h
  rehold t g reason w met hg h := by
    refine ⟨fun f hf => ?_, h.2⟩
    obtain ⟨k, hk, rfl⟩ := List.mem_map.mp hf
    split
    · exact h.1 k hk
    · exact h.1 k hk
  answer t g b c hg h := by
    obtain ⟨hl, ha⟩ := h
    refine ⟨fun f hf => hl f (List.mem_filter.mp hf).1, ?_⟩
    have hne : g.order ≠ n := hl g hg
    have : (t.unhold g.order).answered n i a := ha
    exact ((this.setCapture hne c).setStatus hne _).depart _
  send t g p r c hg _ _ h := by
    obtain ⟨hl, ha⟩ := h
    refine ⟨fun f hf => hl f (List.mem_filter.mp hf).1, ?_⟩
    have hne : g.order ≠ n := hl g hg
    have : (t.unhold g.order).answered n i a := ha
    exact (this.setCapture hne c).setStatus hne _

/-- A held request that is answered is no longer held (R76). -/
theorem State.reclassify_answers {h : Held} {a : AnswerForm} {cap : Option (List (Option Byte))} (hj : (s.judged h).verdict = .answer a cap)
    (he : ∃ e ∈ s.inflight, e.order = h.order ∧ e.request = h.request) :
    (s.reclassify h).hasLeft h.order ∧ (s.reclassify h).answered h.order h.request.initiator a := by
  have hf : s.sameButStore (s.judged h).state := classify_frame s _ _ _ _
  have hrel : s.reclassify h = ((((s.judged h).state.unhold h.order).setCapture h.order cap).determine h.order h.request.initiator a) := by
    show release h (s.judged h) = _
    unfold release
    rw [hj]
  rw [hrel]
  refine ⟨fun g hg => ?_, ?_⟩
  · simpa using (List.mem_filter.mp hg).2
  · obtain ⟨e, he, ho, hr⟩ := he
    refine State.answered.depart ?_ _
    refine .inr ⟨{ e with capture := cap, status := .ready a }, ?_, ho, congrArg _ hr, rfl⟩
    have hmem : e ∈ ((s.judged h).state.unhold h.order).inflight := by
      rw [State.sameButStore] at hf
      rw [hf]
      exact he
    rw [State.setStatus_inflight, State.setCapture_inflight]
    exact List.mem_map.mpr ⟨{ e with capture := cap }, List.mem_map.mpr ⟨e, hmem, if_pos ho⟩, if_pos ho⟩

/-- The oldest held request of all is the oldest of its initiator: no reason ORDER keeps it (R72). -/
theorem State.olderHeld_head {h : Held} {q : List Held} (hq : s.holdQueue = h :: q) (hs : (s.holdQueue.map (·.order)).Pairwise (· < ·))
    (i : Initiator) : s.olderHeld i h.order = false := by
  rw [hq, List.map_cons, List.pairwise_cons] at hs
  simp only [State.olderHeld, hq, List.any_cons, Nat.lt_irrefl, decide_false, Bool.and_false, Bool.false_or, List.any_eq_false,
    Bool.and_eq_true, decide_eq_true_eq, not_and]
  exact fun g hg _ => Nat.not_lt.mpr (Nat.le_of_lt (hs.1 _ (List.mem_map_of_mem hg)))

/-- The held requests stand in take order (R47, R71). -/
theorem State.portsAgree.holdSorted (h : s.portsAgree) : (s.holdQueue.map (·.order)).Pairwise (· < ·) := by
  obtain ⟨hsorted, -, hheld, -⟩ := h
  have : s.holdQueue.map (·.order) = (s.inflight.filter (·.isHeld)).map (·.order) := by
    have := congrArg (List.map Prod.fst) hheld
    simpa only [List.map_map, Function.comp_def] using this
  rw [this]
  exact hsorted.sublist (List.filter_sublist.map _)

/-- The oldest held request, in a window, is judged by the window (R49, R72). -/
theorem State.judged_head {h : Held} {q : List Held} {w : WindowId} (hq : s.holdQueue = h :: q)
    (hs : (s.holdQueue.map (·.order)).Pairwise (· < ·)) (hw : s.windowOf h.request.line = some w) :
    s.judged h = steerInWindow s w h.request h.exhaustionMet := by
  unfold State.judged classify
  rw [if_neg (by simp [State.olderHeld_head hq hs]), hw]

/-- A producer's WRITE held for its window, oldest of all, is judged by the window's state (R57). -/
theorem State.judged_heldWrite {h : Held} {q : List Held} {w : WindowId} (hq : s.holdQueue = h :: q)
    (hs : (s.holdQueue.map (·.order)).Pairwise (· < ·)) (hw : s.heldWrite h w) :
    s.judged h = steerWrite s w h.request h.exhaustionMet := by
  obtain ⟨-, hl, hw, ⟨lanes, hk⟩, -, -⟩ := hw
  rw [State.judged_head hq hs (hl ▸ hw), steerInWindow_write _ hk]

/-- What a held write needs of the state: its window's place, range, producers and tally flag. -/
theorem State.heldWrite.congr {t : State} {h : Held} {w : WindowId} (hh : s.heldWrite h w)
    (hd : ∀ u, (t.window u).desc = (s.window u).desc ∧ ((t.window u).state = .off ↔ (s.window u).state = .off)) : t.heldWrite h w := by
  obtain ⟨h1, h2, h3, h4, h5, h6⟩ := hh
  refine ⟨h1, h2, ?_, h4, ?_, ?_⟩
  · rw [← h3]
    unfold State.windowOf
    congr 1
    funext u
    obtain ⟨hu, ho⟩ := hd u
    have : ((t.window u).state != .off) = ((s.window u).state != .off) := by
      rw [Bool.eq_iff_iff]
      simp [ho]
    rw [this]
    unfold Window.covers
    rw [hu]
  · unfold Window.isProducer at h5 ⊢
    rw [(hd w).1]
    exact h5
  · unfold Window.tallyWrite Window.isTally at h6 ⊢
    rw [(hd w).1]
    exact h6

end Sys2Proof.Machine
end

section
/-! The second error of an entry (R18, R116, R117). -/

namespace Sys2Proof.Machine

variable {s : State}

/-- Freeing the entry of a line frees no other (R39). -/
theorem State.freeEntry_spec {w : WindowId} {l : Line} (h : (s.committedEntry w l).isSome = true) :
    (s.freeEntries (·.isCommittedOf w l)).drainQueue = (s.drainQueue.filter fun d => d ≠ ⟨w, l⟩) ∧
      (s.freeEntries (·.isCommittedOf w l)).committedLines w = (s.committedLines w).filter (· ≠ l) ∧
      (∀ u, u ≠ w → (s.freeEntries (·.isCommittedOf w l)).committedLines u = s.committedLines u) ∧
      ∀ u, (s.freeEntries (·.isCommittedOf w l)).pendingList u = s.pendingList u := by
  obtain ⟨e, he⟩ := Option.isSome_iff_exists.mp h
  obtain ⟨hmem, hc⟩ := State.committedEntry_some he
  refine ⟨List.filter_congr fun d _ => ?_, ?_, fun u hu => ?_, fun u => ?_⟩
  · rw [Bool.eq_iff_iff]
    simp only [Bool.not_eq_true', List.any_eq_false, Bool.and_eq_true, not_and, decide_eq_true_eq]
    constructor
    · rintro hno rfl
      exact hno e hmem hc hc
    · intro hd f _ hfw hfd
      obtain ⟨h1, h2, -⟩ := Entry.isCommittedOf_iff.mp hfw
      obtain ⟨h3, h4, -⟩ := Entry.isCommittedOf_iff.mp hfd
      refine hd ?_
      rw [← h1, ← h2, h3, h4]
  · simp only [State.committedLines, State.committedSet, State.freeEntries_pool, List.filter_map, List.filter_filter]
    congr 1
    refine List.filter_congr fun f _ => ?_
    rw [Bool.eq_iff_iff]
    simp only [Bool.and_eq_true, beq_iff_eq, Bool.not_eq_true', Entry.isCommittedOf, Function.comp_apply, decide_eq_true_eq, ne_eq,
      Bool.eq_false_iff]
    tauto
  · simp only [State.committedLines, State.committedSet, State.freeEntries_pool, List.filter_filter]
    congr 1
    refine List.filter_congr fun f _ => ?_
    rw [Bool.eq_iff_iff]
    simp only [Bool.and_eq_true, beq_iff_eq, Bool.not_eq_true', Entry.isCommittedOf, Bool.eq_false_iff, ne_eq]
    exact ⟨fun h => h.1, fun h => ⟨h, fun hc => hu (h.1.symm.trans hc.1.1)⟩⟩
  · simp only [State.pendingList, State.freeEntries_pool, List.filter_filter]
    refine List.filter_congr fun f _ => ?_
    rw [Bool.eq_iff_iff]
    simp only [Bool.and_eq_true, beq_iff_eq, Bool.not_eq_true', Entry.isCommittedOf, Bool.eq_false_iff, ne_eq]
    exact ⟨fun h => h.1, fun h => ⟨h, fun hc => hc.2 h.2⟩⟩

/-- The state that a drop makes, before its held requests are looked at again (R116, R117). -/
def State.dropped (s : State) (w : WindowId) (l : Line) : State :=
  (((s.freeEntries (·.isCommittedOf w l)).updWindow w fun v => { v with drainFaults := satInc v.drainFaults }).updWindow w
    Window.faulted).notify .drainFault (.window w) (some l) none

theorem State.dropEntry_eq (s : State) (w : WindowId) (l : Line) :
    s.dropEntry w l =
      (s.dropped w l).closeEvent true false
        ((s.dropped w l).heldWithRoom ++ (s.dropped w l).heldOnLine w l ++
          (if (s.window w).faultsNow then (s.dropped w l).heldOf w [.closing, .frameReady, .exhausted] else [])) := rfl

theorem State.dropped_window (s : State) (w : WindowId) (l : Line) :
    (s.dropped w l).window w = Window.faulted { s.window w with drainFaults := satInc (s.window w).drainFaults } := by
  simp [State.dropped]

theorem State.dropped_other {w u : WindowId} (l : Line) (h : u ≠ w) : (s.dropped w l).window u = s.window u := by
  simp [State.dropped, State.updWindow_other, h]


theorem Window.faulted_state {v : Window} (h : v.state ≠ .off) : v.faulted.state = .faulted := by
  unfold Window.faulted
  split
  · rfl
  · rfl
  · assumption
  · contradiction

/-- A drop leaves each window's place and range (R18). -/
theorem State.dropped_desc (w : WindowId) (l : Line) (u : WindowId) :
    ((s.dropped w l).window u).desc = (s.window u).desc ∧
      (((s.dropped w l).window u).state = .off ↔ (s.window u).state = .off) := by
  by_cases h : u = w
  · subst h
    rw [State.dropped_window]
    unfold Window.faulted
    split <;> simp_all
  · rw [State.dropped_other l h]
    exact ⟨rfl, Iff.rfl⟩

/-- A producer's WRITE that is the oldest held request is answered ERROR when its window becomes FAULTED (R18, R57, R74). -/
theorem State.dropEntry_answers {w : WindowId} {l : Line} {h : Held} {q : List Held} (hq : s.holdQueue = h :: q) (hp : s.portsAgree)
    (hr : h.reason = .closing ∨ h.reason = .frameReady ∨ h.reason = .exhausted) (hw : s.heldWrite h w)
    (ho : (s.window w).state ≠ .off) (hf : (s.window w).state ≠ .faulted) :
    (s.dropEntry w l).hasLeft h.order ∧ (s.dropEntry w l).answered h.order h.request.initiator .error := by
  have hwin : h.window = some w := hw.1
  have hst : ((s.dropped w l).window w).state = .faulted := by
    rw [State.dropped_window]
    exact Window.faulted_state ho
  have hnow : (s.window w).faultsNow = true := by
    cases hs : (s.window w).state <;> simp_all [Window.faultsNow]
  have htrig : h.order ∈ (s.dropped w l).heldOf w [.closing, .frameReady, .exhausted] := by
    refine List.mem_map_of_mem (List.mem_filter.mpr ⟨?_, ?_⟩)
    · rw [show (s.dropped w l).holdQueue = s.holdQueue from rfl, hq]
      exact List.mem_cons_self
    · rcases hr with hr | hr | hr <;> simp [hwin, hr]
  have hforce : (s.dropped w l).inForce h = false := by
    rcases hr with hr | hr | hr <;> simp [State.inForce, hr, hwin, hst]
  have hj : ((s.dropped w l).judged h).verdict = .answer .error none := by
    have hw' : (s.dropped w l).heldWrite h w := hw.congr fun u => s.dropped_desc w l u
    rw [State.judged_heldWrite (s := s.dropped w l) hq hp.holdSorted hw', steerWrite_producer _ hw'.2.2.2.2.1, hst]
  obtain ⟨e, he, heo, her, -⟩ := hp.entry_of_held (hq ▸ List.mem_cons_self : h ∈ s.holdQueue)
  have hk := hasLeft_keeps h.order h.request.initiator .error
  rw [State.dropEntry_eq, hnow, if_pos rfl]
  exact State.closeEvent_first (s := s.dropped w l) (pre := []) (fun t g hg _ => t.reclassify_keeps hk g hg) (fun _ h => h)
    (fun t ht => by simpa [State.hasLeft, State.answered] using ht) hq (by simp) (List.mem_append_right _ htrig) hforce
    (State.reclassify_answers hj ⟨e, he, heo, her⟩) true false

/-- A drain write that completes was none of the host-origin requests (R108). -/
theorem State.portsAgree.completed {r : DrainRef} {pre post : List Outstanding} (h : s.portsAgree)
    (ho : s.outstanding = pre ++ .drain r :: post) : ({ s with outstanding := pre ++ post } : State).portsAgree := by
  have hd : ({ s with outstanding := pre ++ post } : State).downstream = s.downstream := by
    simp only [State.downstream, ho, List.filterMap_append, List.filterMap_cons]
  obtain ⟨h1, h2, h3, h4, h5⟩ := h
  exact ⟨h1, h2, h3, h4, hd ▸ h5⟩

/-- Settles O38: the drop, then the close of the event by `State.closeEvent_committedLines`, `State.closeEvent_pendingList` and
`State.closeEvent_window`; the oldest held request by `State.dropEntry_answers`. -/
theorem secondDrainErrors : Obligations.SecondDrainErrors := by
  intro s l w pre post e ho hpre hb he hm hoff
  obtain ⟨-, hsecond, -⟩ := State.drainCompletion_found ho hpre hb he
  obtain ⟨b, hbdef⟩ : ∃ b : State, b = { s with outstanding := pre ++ post } := ⟨_, rfl⟩
  rw [← hbdef] at hsecond
  have hbwin : ∀ u, b.window u = s.window u := fun u => by rw [hbdef]; rfl
  have hbq : b.holdQueue = s.holdQueue := by rw [hbdef]
  have hbb : b.port.busy = false := by rw [hbdef]; exact hb
  have hbl : b.committedLines w = s.committedLines w ∧ b.pendingList w = s.pendingList w := by rw [hbdef]; exact ⟨rfl, rfl⟩
  have hbe : (b.committedEntry w l).isSome = true := by rw [hbdef]; exact Option.isSome_iff_exists.mpr ⟨e, he⟩
  obtain ⟨hfq, hfc, -, hfp⟩ := State.freeEntry_spec hbe
  have hst : ((b.dropped w l).window w).state = .faulted := by
    rw [State.dropped_window]
    exact Window.faulted_state (by rw [hbwin]; exact hoff)
  have hna : ((b.dropped w l).window w).state ≠ .active := by simp [hst]
  refine ⟨b.dropEntry w l, congrArg Host.Outcome.next (hsecond hm), ?_, ?_, ?_, fun u hu => ?_, ?_, fun hnone => ?_,
    fun h q hq hp hr hw hf => ?_⟩
  · rw [State.dropEntry_eq, State.closeEvent_committedLines, ← hbl.1]
    exact hfc
  · rw [State.dropEntry_eq, State.closeEvent_pendingList hna, ← hbl.2]
    exact hfp w
  · rw [State.dropEntry_eq, (State.closeEvent_window _ _ _ _ w).2 hna, State.dropped_window, hbwin, satInc_eq]
    unfold Window.faulted
    cases hs : (s.window w).state <;> simp_all
  · have hsch := State.closeEvent_scheduled (s := b.dropped w l) true false
      ((b.dropped w l).heldWithRoom ++ (b.dropped w l).heldOnLine w l ++
        (if (b.window w).faultsNow then (b.dropped w l).heldOf w [.closing, .frameReady, .exhausted] else [])) u
    rw [← State.dropEntry_eq, State.dropped_other l hu, hbwin] at hsch
    have hstate := congrArg Window.state hsch
    have hfaults := congrArg Window.drainFaults hsch
    exact ⟨hstate, hfaults⟩
  · rw [State.dropEntry_eq]
    exact State.closeEvent_settled (s := b.dropped w l) hbb _ _
  · rw [State.dropEntry_eq, State.closeEvent_drains (s := b.dropped w l) (hbq.trans hnone)]
    have hdq : (b.dropped w l).drainQueue = s.drainQueue.filter fun d => d ≠ ⟨w, l⟩ := by
      refine hfq.trans ?_
      rw [hbdef]
    refine ⟨?_, ?_⟩
    · rw [← hdq, ← hbdef]
      exact State.drainIssue_issuesFrom (s := b.dropped w l) hbb rfl rfl
    · rw [hbdef]
      exact State.drainIssue_notif _
  · refine State.dropEntry_answers (s := b) (hbq.trans hq) ?_ hr ?_ (by rw [hbwin]; exact hoff) (by rw [hbwin]; exact hf)
    · rw [hbdef]
      exact hp.completed ho
    · exact hw.congr fun u => by rw [hbwin]; exact ⟨rfl, Iff.rfl⟩

end Sys2Proof.Machine
end

section
/-! CLOSE by its table (R15, R16, R17), with the writes that it holds again (R73). -/

namespace Sys2Proof.Machine

variable {s : State}

/-! ### The state that a CLOSE makes -/

/-- The window's frame record as a CLOSE with mode `m` leaves it (R16). -/
def Window.closeKeeps (v : Window) (m : CloseMode) : Window := if m = .discard then v.discarded else v

/-- The state once a CLOSE has freed what it frees, and the window is CLOSING (R15, R16). -/
def State.closeMarked (s : State) (w : WindowId) (m : CloseMode) : State :=
  ((if m = .discard then (s.freeEntries fun e => m == .discard && s.discardsEntry w e).updWindow w Window.discarded else s) : State).updWindow
    w fun v => { v with state := .closing, closeMode := some m }

theorem State.closeTo_eq (s : State) (w : WindowId) (m : CloseMode) :
    s.closeTo w m =
      ((s.closeMarked w m).testOff w).closeEvent false false
        (((s.closeMarked w m).testOff w).heldOf w [.frameReady, .exhausted] ++
          ((s.closeMarked w m).testOff w).heldByFrees (s.pool.filter fun e => m == .discard && s.discardsEntry w e) ++
          (s.closeMarked w m).heldByOff ((s.closeMarked w m).testOff w) w) := rfl

/-- What a CLOSE leaves as it was. -/
theorem State.closeMarked_rest (s : State) (w : WindowId) (m : CloseMode) :
    (s.closeMarked w m).holdQueue = s.holdQueue ∧ (s.closeMarked w m).outstanding = s.outstanding ∧
      (s.closeMarked w m).notif = s.notif ∧ (s.closeMarked w m).sel = s.sel := by
  cases m <;> exact ⟨rfl, rfl, rfl, rfl⟩

theorem State.closeMarked_window (s : State) (w : WindowId) (m : CloseMode) :
    (s.closeMarked w m).window w = { (s.window w).closeKeeps m with state := .closing, closeMode := some m } := by
  cases m <;> simp [State.closeMarked, Window.closeKeeps]

theorem State.closeMarked_other {w u : WindowId} (m : CloseMode) (h : u ≠ w) : (s.closeMarked w m).window u = s.window u := by
  cases m <;> simp [State.closeMarked, State.updWindow_other, h]

theorem State.closeMarked_pool (s : State) (w : WindowId) (m : CloseMode) :
    (s.closeMarked w m).pool = s.pool.filter fun e => !(m == .discard && s.discardsEntry w e) := by
  cases m with
  | commit => exact (List.filter_true s.pool).symm
  | discard => rfl

/-- The entries that a CLOSE frees: in DISCARD mode the pending list, and the QUEUED committed entries of a FAULTED window (R16). -/
theorem State.closeMarked_entries (s : State) (w : WindowId) (m : CloseMode) :
    (s.closeMarked w m).pendingList w = (if m = .discard then [] else s.pendingList w) ∧
      (s.closeMarked w m).committedLines w =
        ((s.committedSet w).filter fun e => !(m == .discard && (s.window w).state == .faulted && e.isQueued)).map (·.line) ∧
      ∀ u, u ≠ w → (s.closeMarked w m).committedLines u = s.committedLines u := by
  refine ⟨?_, ?_, fun u hu => ?_⟩
  · rw [State.pendingList, State.closeMarked_pool, List.filter_filter]
    cases m with
    | commit =>
      refine (List.filter_congr fun e _ => ?_).trans (if_neg (by simp)).symm
      rw [show (CloseMode.commit == CloseMode.discard) = false from rfl, Bool.false_and, Bool.not_false, Bool.and_true]
    | discard =>
      refine (List.filter_eq_nil_iff.mpr fun e _ => ?_).trans (if_pos rfl).symm
      cases hp : e.isPending <;> simp [State.discardsEntry, hp]
  · rw [State.committedLines, State.committedSet, State.closeMarked_pool, State.committedSet, List.filter_filter, List.filter_filter]
    congr 1
    refine List.filter_congr fun e _ => ?_
    rw [Bool.eq_iff_iff]
    simp only [State.discardsEntry, Bool.and_eq_true, beq_iff_eq, Bool.not_eq_true', Bool.and_eq_false_iff, Bool.or_eq_false_iff,
      beq_eq_false_iff_ne]
    tauto
  · rw [State.committedLines, State.committedSet, State.closeMarked_pool, State.committedLines, State.committedSet, List.filter_filter]
    congr 1
    refine List.filter_congr fun e _ => ?_
    rw [Bool.eq_iff_iff]
    simp only [State.discardsEntry, Bool.and_eq_true, beq_iff_eq, Bool.not_eq_true', Bool.and_eq_false_iff, Bool.or_eq_false_iff,
      beq_eq_false_iff_ne]
    exact ⟨fun h => h.1, fun h => ⟨h, .inr (.inl fun he => hu (h.1.symm.trans he))⟩⟩

/-- A window owns nothing exactly when its pending list and its committed set are empty (R24, R25, R27). -/
theorem State.inUse_eq_zero {w : WindowId} : s.inUse w = 0 ↔ s.pendingList w = [] ∧ s.committedLines w = [] := by
  simp only [State.inUse, List.countP_eq_zero, State.pendingList, State.committedLines, State.committedSet, List.map_eq_nil_iff,
    List.filter_eq_nil_iff, Bool.and_eq_true, beq_iff_eq, Bool.not_eq_true', not_and]
  constructor
  · exact fun h => ⟨fun e he hw => absurd hw (h e he), fun e he hw => absurd hw (h e he)⟩
  · intro h e he hw
    have h1 := h.1 e he hw
    have h2 := h.2 e he hw
    cases hp : e.isPending <;> simp_all

/-- The test of R17 in the spec's terms. -/
theorem State.canTurnOff_iff {w : WindowId} :
    s.canTurnOff w = true ↔ (s.window w).state = .closing ∧ s.inUse w = 0 ∧ ∀ o ∈ s.outstanding, o.isDrainOf w = false := by
  simp [State.canTurnOff, and_assoc]

/-- What the test of R17 leaves as it was. -/
theorem State.testOff_rest (s : State) (w : WindowId) :
    (s.testOff w).pool = s.pool ∧ (s.testOff w).holdQueue = s.holdQueue ∧ (s.testOff w).inflight = s.inflight ∧
      (s.testOff w).outstanding = s.outstanding ∧ (s.testOff w).drainQueue = s.drainQueue ∧ (s.testOff w).issued = s.issued ∧
      (s.testOff w).waitList = s.waitList := by
  unfold State.testOff
  split <;> exact ⟨rfl, rfl, rfl, rfl, rfl, rfl, rfl⟩

theorem State.testOff_other {w u : WindowId} (h : u ≠ w) : (s.testOff w).window u = s.window u := by
  unfold State.testOff
  split <;> simp [State.updWindow_other, h]

theorem State.testOff_passes {w : WindowId} (h : s.canTurnOff w = true) :
    (s.testOff w).window w = (s.window w).shut ∧ (s.testOff w).notif = (s.notify .windowOff (.window w) none none).notif := by
  rw [State.testOff, if_pos h]
  exact ⟨by simp [Window.turnedOff, Window.shut], rfl⟩

theorem State.testOff_fails {w : WindowId} (h : ¬ s.canTurnOff w = true) : s.testOff w = s := if_neg h

theorem State.testOff_notActive {w : WindowId} (h : (s.window w).state ≠ .active) : ((s.testOff w).window w).state ≠ .active := by
  by_cases hc : s.canTurnOff w = true
  · simp [(State.testOff_passes hc).1, Window.shut]
  · rw [State.testOff_fails hc]
    exact h

/-! ### Held again in its place -/

/-- A held request given another reason, if it stands at place `n` (R73). -/
def Held.reheld (n : Nat) (reason : HoldReason) (w : Option WindowId) (met : Bool) (g : Held) : Held :=
  if g.order = n then { g with reason := reason, window := w, line := g.request.line, exhaustionMet := met } else g

theorem State.rehold_holdQueue (s : State) (n : Nat) (reason : HoldReason) (w : Option WindowId) (met : Bool) :
    (s.rehold n reason w met).holdQueue = s.holdQueue.map (Held.reheld n reason w met) := rfl

theorem Held.reheld_order (n : Nat) (reason : HoldReason) (w : Option WindowId) (met : Bool) (g : Held) :
    (g.reheld n reason w met).order = g.order := by
  unfold Held.reheld
  split <;> rfl

/-- The requests at other places are held as they were. -/
theorem Held.reheld_others {n : Nat} (reason : HoldReason) (w : Option WindowId) (met : Bool) {q : List Held}
    (h : ∀ g ∈ q, g.order ≠ n) : q.map (Held.reheld n reason w met) = q :=
  (List.map_congr_left (g := id) fun g hg => if_neg (h g hg)).trans (List.map_id q)

/-- A classification afresh changes one entry of the hold queue, or takes it out (R73, R76). -/
theorem State.reclassify_holdQueue (s : State) (g : Held) :
    (∃ reason w met, (s.reclassify g).holdQueue = (s.rehold g.order reason w met).holdQueue) ∨
      (s.reclassify g).holdQueue = s.holdQueue.filter fun k => k.order != g.order := by
  have hf : s.sameButStore (s.judged g).state := classify_frame s _ _ _ _
  have hq : (s.judged g).state.holdQueue = s.holdQueue := by
    rw [State.sameButStore] at hf
    rw [hf]
  have hr : s.reclassify g = release g (s.judged g) := rfl
  rw [hr]
  unfold release State.rehold
  split
  · next reason w _ => exact .inl ⟨reason, w, (s.judged g).met, by rw [← hq]⟩
  · exact .inr (by rw [← hq]; rfl)
  · exact .inr (by rw [← hq]; rfl)

theorem State.reclassify_state (s : State) (g : Held) (w : WindowId) : ((s.reclassify g).window w).state = (s.window w).state := by
  have hc := (classify_window s g.order g.request ((s.inflightAt g.order).bind (·.window)) g.exhaustionMet w).1
  dsimp only at hc
  have e : (s.reclassify g).window w = (s.judged g).state.window w := by
    show (release g (s.judged g)).window w = _
    unfold release
    split <;> rfl
  rw [e, State.judged, hc]

/-- The oldest held request is `h`, held CLOSING, and its window is CLOSING (R72). -/
def State.headClosing (s : State) (w : WindowId) (h : Held) : Prop :=
  (∃ q, s.holdQueue = h :: q ∧ ∀ g ∈ q, g.order ≠ h.order) ∧ h.reason = .closing ∧ h.window = some w ∧ (s.window w).state = .closing

/-- Its reason stays in force, so no further classification comes to it (R72). -/
theorem State.headClosing.reclassify {w : WindowId} {h : Held} (hh : s.headClosing w h) {g : Held} (hg : g ∈ s.holdQueue)
    (hf : s.inForce g = false) : (s.reclassify g).headClosing w h := by
  obtain ⟨⟨q, hq, hne⟩, hr, hw, hst⟩ := hh
  have hforce : s.inForce h = true := by simp [State.inForce, hr, hw, hst]
  have hgq : g ∈ q := by
    rw [hq] at hg
    rcases List.mem_cons.mp hg with rfl | hg
    · rw [hforce] at hf
      cases hf
    · exact hg
  have horder : h.order ≠ g.order := (hne g hgq).symm
  refine ⟨?_, hr, hw, (s.reclassify_state g w).trans hst⟩
  rcases s.reclassify_holdQueue g with ⟨reason, u, met, e⟩ | e
  · refine ⟨q.map (Held.reheld g.order reason u met), ?_, fun k hk => ?_⟩
    · rw [e, State.rehold_holdQueue, hq, List.map_cons, Held.reheld, if_neg horder]
    · obtain ⟨k, hkq, rfl⟩ := List.mem_map.mp hk
      rw [Held.reheld_order]
      exact hne k hkq
  · refine ⟨q.filter fun k => k.order != g.order, ?_, fun k hk => hne k (List.mem_filter.mp hk).1⟩
    rw [e, hq, List.filter_cons, if_pos (by simpa using horder)]

/-- The oldest held request, judged CLOSING, is held again in its place (R73). -/
theorem State.reclassify_closing {w : WindowId} {h : Held} {q : List Held} (hq : s.holdQueue = h :: q)
    (hs : (s.holdQueue.map (·.order)).Pairwise (· < ·)) (hw : s.heldWrite h w) (hst : (s.window w).state = .closing) :
    (s.reclassify h).headClosing w { h with reason := .closing } := by
  have hj : s.judged h = ⟨s, .hold .closing (some w), h.exhaustionMet, none⟩ := by
    rw [State.judged_heldWrite hq hs hw, steerWrite_producer _ hw.2.2.2.2.1, hst]
  have hne : ∀ g ∈ q, g.order ≠ h.order := fun g hg => by
    rw [hq, List.map_cons, List.pairwise_cons] at hs
    exact Nat.ne_of_gt (hs.1 _ (List.mem_map_of_mem hg))
  have hr : s.reclassify h = s.rehold h.order .closing (some w) h.exhaustionMet := by
    show release h (s.judged h) = _
    rw [hj]
    rfl
  obtain ⟨hwin, hline, -⟩ := hw
  rw [hr]
  refine ⟨⟨q, ?_, hne⟩, rfl, hwin, hst⟩
  rw [State.rehold_holdQueue, hq, List.map_cons, Held.reheld_others _ _ _ hne, Held.reheld, if_pos rfl, ← hline, ← hwin]

/-- A CLOSE leaves each window's place and range, and no window becomes OFF before the test of R17 (R15). -/
theorem State.closeMarked_desc {w : WindowId} (m : CloseMode) (ho : (s.window w).state ≠ .off) (u : WindowId) :
    ((s.closeMarked w m).window u).desc = (s.window u).desc ∧
      (((s.closeMarked w m).window u).state = .off ↔ (s.window u).state = .off) := by
  by_cases h : u = w
  · subst h
    rw [State.closeMarked_window]
    cases m <;> simp [Window.closeKeeps, Window.discarded, ho]
  · rw [State.closeMarked_other m h]
    exact ⟨rfl, Iff.rfl⟩

/-- The oldest held write of a window that is then CLOSING is held again in its place with reason CLOSING (R15, R73). -/
theorem State.closeTo_holdsAgain {w : WindowId} {m : CloseMode} {h : Held} {q : List Held} (hq : s.holdQueue = h :: q)
    (hp : s.portsAgree) (ho : (s.window w).state ≠ .off) (hc : ¬ (s.closeMarked w m).canTurnOff w = true)
    (hr : h.reason = .frameReady ∨ h.reason = .exhausted) (hw : s.heldWrite h w) :
    (s.closeTo w m).holdQueue.head? = some { h with reason := .closing } := by
  have hq' : (s.closeMarked w m).holdQueue = h :: q := (s.closeMarked_rest w m).1.trans hq
  have hst : ((s.closeMarked w m).window w).state = .closing := by rw [State.closeMarked_window]
  have hwin : h.window = some w := hw.1
  have htrig : h.order ∈ (s.closeMarked w m).heldOf w [.frameReady, .exhausted] := by
    refine List.mem_map_of_mem (List.mem_filter.mpr ⟨hq' ▸ List.mem_cons_self, ?_⟩)
    rcases hr with hr | hr <;> simp [hwin, hr]
  have hforce : (s.closeMarked w m).inForce h = false := by
    rcases hr with hr | hr <;> simp [State.inForce, hr, hwin, hst]
  have hsorted : ((s.closeMarked w m).holdQueue.map (·.order)).Pairwise (· < ·) := by
    rw [(s.closeMarked_rest w m).1]
    exact hp.holdSorted
  rw [State.closeTo_eq, State.testOff_fails hc]
  have hend : ∀ trig, h.order ∈ trig →
      ((s.closeMarked w m).closeEvent false false trig).headClosing w { h with reason := .closing } := fun trig ht =>
    State.closeEvent_first (pre := []) (P := fun t => t.headClosing w { h with reason := .closing })
      (fun t g hg hf ht => ht.reclassify hg hf) (fun _ ht => ht) (fun t ht => by simpa [State.headClosing] using ht) hq' (by simp) ht hforce
      (State.reclassify_closing hq' hsorted (hw.congr (State.closeMarked_desc m ho)) hst) false false
  obtain ⟨⟨q', hq', -⟩, -⟩ := hend _ (List.mem_append_left _ (List.mem_append_left _ htrig))
  rw [hq']
  rfl

/-! ### The table -/

/-- A CLOSE that changes the window's state or its close mode (R15). -/
theorem State.closeWindow_closes {w : WindowId} {m : CloseMode}
    (h : (s.window w).state = .active ∨ ((s.window w).state = .closing ∧ (s.window w).closeMode = some .commit ∧ m = .discard) ∨
      ((s.window w).state = .faulted ∧ m = .discard)) : s.closeWindow w m = (.done, s.closeTo w m) := by
  unfold State.closeWindow
  rcases h with h | ⟨h, hm, rfl⟩ | ⟨h, rfl⟩
  · rw [h]
  · rw [h]
    dsimp only
    rw [if_neg (by simp [hm])]
  · rw [h]

theorem exec_closeWindow (hb : s.port.busy = false) :
    exec .closeWindow s = .next (complete .closeW (s.closeWindow s.port.argument.window s.port.argument.mode)) := by
  show Host.Outcome.next (s.command .closeW) = _
  rw [State.command_free hb]
  rfl

/-- What writing the result leaves as it was (R162). -/
theorem complete_rest (c : CommandName) (x : ResultCode × State) :
    (∀ w, (complete c x).window w = x.2.window w) ∧ (complete c x).holdQueue = x.2.holdQueue ∧ (complete c x).notif = x.2.notif ∧
      (∀ w, (complete c x).pendingList w = x.2.pendingList w) ∧ ∀ w, (complete c x).committedLines w = x.2.committedLines w :=
  ⟨fun _ => rfl, rfl, rfl, fun _ => rfl, fun _ => rfl⟩

theorem State.closeMarked_notActive (s : State) (w : WindowId) (m : CloseMode) :
    (((s.closeMarked w m).testOff w).window w).state ≠ .active :=
  State.testOff_notActive (by simp [State.closeMarked_window])

/-- What a CLOSE leaves of the entries: the close of its event frees none and stages none into the window (R16). -/
theorem State.closeTo_entries (s : State) (w : WindowId) (m : CloseMode) :
    (s.closeTo w m).pendingList w = (s.closeMarked w m).pendingList w ∧
      ∀ u, (s.closeTo w m).committedLines u = (s.closeMarked w m).committedLines u := by
  obtain ⟨hp, -⟩ := (s.closeMarked w m).testOff_rest w
  rw [State.closeTo_eq, State.closeEvent_pendingList (s.closeMarked_notActive w m)]
  refine ⟨by rw [State.pendingList, hp]; rfl, fun u => ?_⟩
  rw [State.closeEvent_committedLines, State.committedLines, State.committedSet, hp]
  rfl

/-- The window's record after a CLOSE: OFF where it owns nothing more (R9, R16, R17). -/
theorem State.closeTo_window (s : State) (w : WindowId) (m : CloseMode) :
    (s.closeTo w m).window w = ((s.closeMarked w m).testOff w).window w :=
  (State.closeEvent_window _ _ _ _ w).2 (s.closeMarked_notActive w m)

/-- Settles O48: the state that the CLOSE makes (`State.closeMarked_window`, `State.closeMarked_entries`), the test of R17, and the close
of the event. -/
theorem closeFollowsTheTable : Obligations.CloseFollowsTheTable := by
  rintro s w m hb hw hm
  have hexec := exec_closeWindow hb
  rw [hw, hm] at hexec
  refine ⟨fun h => ?_, fun h hno => ?_, fun h => ?_⟩
  · have hres : s.closeWindow w m = (.refusedState, s) := by
      unfold State.closeWindow
      rcases h with h | ⟨h, rfl⟩ <;> rw [h]
    rw [hexec, hres]
    rfl
  · have hres : s.closeWindow w m = (.done, s) := by
      unfold State.closeWindow
      rw [h]
      cases m with
      | commit => rfl
      | discard => exact congrArg _ (if_pos (hno.resolve_left (by simp)))
    rw [hexec, hres]
    rfl
  · rw [State.closeWindow_closes h] at hexec
    have ho : (s.window w).state ≠ .off := by
      rcases h with h | ⟨h, -⟩ | ⟨h, -⟩ <;> simp [h]
    obtain ⟨hpend, hcomm, hother⟩ := s.closeMarked_entries w m
    obtain ⟨hq, hout, hnotif, hsel⟩ := s.closeMarked_rest w m
    obtain ⟨tp, tl⟩ := s.closeTo_entries w m
    obtain ⟨cw, cq, cn, cp, cl⟩ := complete_rest .closeW (.done, s.closeTo w m)
    refine ⟨_, hexec, ?_, ?_, ?_, fun u hu => ⟨?_, ?_⟩, fun kept off hkept hoff => ?_⟩
    · rw [complete, State.closeTo_port]
    · rw [cp, tp, hpend]
    · rw [cl, tl, hcomm]
    · rw [cw, State.closeTo_eq, State.closeEvent_scheduled, State.testOff_other hu, State.closeMarked_other m hu]
    · rw [cl, tl, hother u hu]
    · have hmode : (s.closeMarked w m).window w = { kept with state := .closing, closeMode := some m } := by
        rw [State.closeMarked_window, hkept]
        rfl
      have htest : off = true ↔ (s.closeMarked w m).canTurnOff w = true := by
        rw [hoff, State.canTurnOff_iff, State.inUse_eq_zero, hout, cp, cl, tp, tl, hmode]
        simp [and_assoc]
      refine ⟨fun h1 => ?_, fun h1 => ?_, fun hnone => ?_, fun g q hgq hp h1 hr hgw => ?_⟩
      · rw [cw, State.closeTo_window, (State.testOff_passes (htest.mp h1)).1, hmode]
        rfl
      · rw [cw, State.closeTo_window, State.testOff_fails (by rw [← htest]; simp [h1]), hmode]
      · have hnone' : ((s.closeMarked w m).testOff w).holdQueue = [] := by
          rw [((s.closeMarked w m).testOff_rest w).2.1, hq, hnone]
        rw [cn, State.closeTo_eq, State.closeEvent_noneHeld _ _ _ _ hnone']
        by_cases h1 : off = true
        · rw [if_pos h1]
          refine (State.testOff_passes (htest.mp h1)).2.trans ?_
          rw [State.notify_notif, State.notify_notif, hnotif, hsel]
        · rw [if_neg h1, State.testOff_fails (by rw [← htest]; exact h1)]
          exact hnotif
      · rw [cq]
        exact State.closeTo_holdsAgain hgq hp ho (by rw [← htest]; simp [h1]) hr hgw

end Sys2Proof.Machine
end

section
/-! An OKAY drain completion (R17, R40, R114), and the held requests that it lets leave (R74 to R77). -/

namespace Sys2Proof.Machine

variable {s : State}

/-! ### A held write that is staged -/

theorem Entry.key_pendingLines {l : Line} {w : WindowId} : (w, l, true) ∈ s.pool.map Entry.key ↔ l ∈ s.pendingLines w := by
  simp only [State.pendingLines, State.pendingList, List.mem_map, List.mem_filter, Bool.and_eq_true, beq_iff_eq, Entry.key,
    Prod.mk.injEq]
  exact ⟨fun ⟨e, he, h1, h2, h3⟩ => ⟨e, ⟨he, h1, h3⟩, h2⟩, fun ⟨e, ⟨he, h1, h3⟩, h2⟩ => ⟨e, he, h1, h2, h3⟩⟩

/-- Steering keeps each PENDING entry (R58). -/
theorem pendingLine_keeps (w : WindowId) (l : Line) : SteeringKeeps fun t => (w, l, true) ∈ t.pool.map Entry.key where
  notify _ _ _ _ _ h := h
  update _ _ _ _ h := h
  allocate t u m _ _ _ h := by
    rw [State.allocate_pool, List.map_append]
    exact List.mem_append_left _ h
  merge t u r _ h := by
    rw [t.merge_keys u r]
    exact h

/-- After a staged write its line has a PENDING entry (R30). -/
theorem State.staged_line (s : State) (w : WindowId) (r : Request) : (w, r.line, true) ∈ (s.staged w r).pool.map Entry.key := by
  obtain ⟨hsome, -⟩ := s.withEntry_spec w r.line
  rw [State.staged_eq, State.merge_keys]
  obtain ⟨e, he⟩ := Option.isSome_iff_exists.mp hsome
  obtain ⟨hm, hp⟩ := State.pendingEntry_some he
  obtain ⟨h1, h2, h3⟩ := Entry.isPendingOf_iff.mp hp
  exact List.mem_map.mpr ⟨e, hm, by rw [Entry.key, h1, h2, h3]⟩

/-- The first request that the passes come to goes to staging: it leaves with OKAY, and its line is in the pending list (R58, R76). -/
theorem State.closeEvent_stages {h : Held} {pre q : List Held} {w : WindowId} {m x : Bool} (hq : s.holdQueue = pre ++ h :: q)
    {trig : List Nat} (hpre : ∀ g ∈ pre, g.order ∉ trig) (ht : h.order ∈ trig) (hf : s.inForce h = false)
    (hj : s.judged h = stageWrite s w h.request m x) (hroom : (s.pendingEntry w h.request.line).isSome = true ∨ s.allocOk w = true)
    (he : ∃ e ∈ s.inflight, e.order = h.order ∧ e.request = h.request) (d snt : Bool) :
    (s.closeEvent d snt trig).hasLeft h.order ∧ h.request.line ∈ (s.closeEvent d snt trig).pendingLines w ∧
      (s.closeEvent d snt trig).answered h.order h.request.initiator (.okay []) := by
  rw [stageWrite_staged m x hroom] at hj
  have hk := hasLeft_keeps h.order h.request.initiator (.okay [])
  have hline : (w, h.request.line, true) ∈ (s.reclassify h).pool.map Entry.key := by
    have : s.reclassify h = release h (s.judged h) := rfl
    rw [this, hj]
    exact s.staged_line w h.request
  have hkept : (w, h.request.line, true) ∈ (s.closeEvent d snt trig).pool.map Entry.key :=
    State.closeEvent_first (P := fun t => (w, h.request.line, true) ∈ t.pool.map Entry.key)
      (fun t g hg _ => t.reclassify_keeps ((pendingLine_keeps w h.request.line).passKeeps fun t u _ hp ht => hp ▸ ht) g hg)
      (fun _ h => h) (fun t ht => by rw [t.drainIssue_keys]; exact ht) hq hpre ht hf hline d snt
  obtain ⟨hleft, hans⟩ := State.closeEvent_first (P := fun t => t.hasLeft h.order ∧ t.answered h.order h.request.initiator (.okay []))
    (fun t g hg _ => t.reclassify_keeps hk g hg) (fun _ h => h) (fun t ht => by simpa [State.hasLeft, State.answered] using ht)
    hq hpre ht hf (State.reclassify_answers (cap := none) (by rw [hj]; rfl) he) d snt
  exact ⟨hleft, Entry.key_pendingLines.mp hkept, hans⟩

/-! ### Room that a free gives -/

/-- A free gives its window room, where the reserve was kept (R28, R29, R40). -/
theorem State.freeEntries_allocOk {w : WindowId} {p : Entry → Bool} (hp : ∀ e, p e = true → e.window = w) (hs : ∃ e ∈ s.pool, p e = true)
    (hr : s.reserveKept) (hu : s.inUse w ≤ (s.window w).desc.quota.toNat) : (s.freeEntries p).allocOk w = true := by
  obtain ⟨e, he, hpe⟩ := hs
  obtain ⟨hpool, htotal⟩ := hr
  have hless : (s.freeEntries p).inUse w < s.inUse w := by
    have hsum := s.freeEntries_inUse p w
    have : 0 < s.pool.countP (fun e => p e && e.window == w) := List.countP_pos_iff.mpr ⟨e, he, by simp [hpe, hp e hpe]⟩
    omega
  have hother : ∀ u, u ≠ w → (s.freeEntries p).inUse u = s.inUse u := fun u hne => by
    have hsum := s.freeEntries_inUse p u
    have : s.pool.countP (fun e => p e && e.window == u) = 0 := List.countP_eq_zero.mpr fun f _ => by
      simp only [Bool.and_eq_true, beq_iff_eq, not_and]
      exact fun hf hu => hne (hu.symm.trans (hp f hf))
    omega
  have hfree : s.freeCount < (s.freeEntries p).freeCount := by
    have : (s.freeEntries p).pool.length < s.pool.length :=
      List.length_filter_lt_length_iff_exists.mpr ⟨e, he, by simp [hpe]⟩
    have h512 : Config.poolSize = 512 := rfl
    unfold State.freeCount
    omega
  have hwin : (s.freeEntries p).window w = s.window w := by simp
  by_cases hres : (s.freeEntries p).inUse w < (s.window w).desc.reserve.toNat
  · simp only [State.allocOk, hwin, Bool.and_eq_true, Bool.or_eq_true, decide_eq_true_eq]
    omega
  · have hreserve : ∀ u, (s.freeEntries p).outstandingReserve u = s.outstandingReserve u := fun u => by
      unfold State.outstandingReserve
      by_cases hu : u = w
      · subst hu
        rw [hwin]
        split
        · rfl
        · omega
      · rw [hother u hu]
        simp
    have hsum : (s.freeEntries p).totalReserve = s.totalReserve :=
      congrArg List.sum (List.map_congr_left fun u _ => hreserve u)
    simp only [State.allocOk, hwin, hsum, Bool.and_eq_true, Bool.or_eq_true, decide_eq_true_eq]
    omega

/-! ### A held write that is passed through -/

/-- The oldest held request has been handed over: no held request is older, and it is first of the wait list (R76, R109). -/
def State.firstWaits (s : State) (d : HostDown) (c : Nat) : Prop :=
  (∀ g ∈ s.holdQueue, d.order < g.order) ∧ (∃ q, s.waitList = d :: q) ∧ s.hostCount = c

theorem insertWaiting_head {d x : HostDown} (h : d.order < x.order) (q : List HostDown) : insertWaiting x (d :: q) = d :: insertWaiting x q :=
  if_neg (by omega)

theorem firstWaits_keeps (d : HostDown) (c : Nat) : PassKeeps fun t => t.firstWaits d c where
  notify _ _ _ _ _ h := h
  update _ _ _ _ h := h
  allocate _ _ _ _ _ _ h := h
  merge _ _ _ _ h := h
  rehold t g reason w met _ h := by
    refine ⟨fun k hk => ?_, h.2⟩
    rw [State.rehold_holdQueue] at hk
    obtain ⟨f, hf, rfl⟩ := List.mem_map.mp hk
    rw [Held.reheld_order]
    exact h.1 f hf
  answer t g a cap _ h := ⟨fun k hk => h.1 k (List.mem_filter.mp hk).1, h.2⟩
  send t g p r cap hg _ _ h := by
    obtain ⟨hold, ⟨q, hq⟩, hc⟩ := h
    refine ⟨fun k hk => hold k (List.mem_filter.mp hk).1, ⟨insertWaiting ⟨g.order, p, r⟩ q, ?_⟩, hc⟩
    have hlist : ((t.unhold g.order).sendDown g.order p r cap).waitList = insertWaiting ⟨g.order, p, r⟩ t.waitList := rfl
    rw [hlist, hq]
    exact insertWaiting_head (hold g hg) q

/-- The first request of the wait list goes to memory while fewer than 12 are outstanding (R109). -/
theorem State.issueHost_first {d : HostDown} {q : List HostDown} (hq : s.waitList = d :: q) (hc : s.hostCount < 12) :
    Outstanding.host d ∈ s.issueHost.outstanding ∧ BusRequest.host d.request ∈ s.issueHost.issued := by
  have hmem : d ∈ s.waitList.take (Config.maxHostOutstanding - s.hostCount) := by
    have h12 : Config.maxHostOutstanding = 12 := rfl
    obtain ⟨k, hk⟩ := Nat.exists_eq_add_of_lt (show 0 < Config.maxHostOutstanding - s.hostCount by omega)
    rw [hk, hq]
    simp
  exact ⟨List.mem_append_right _ (List.mem_map_of_mem hmem), List.mem_append_right _ (List.mem_map.mpr ⟨d, hmem, rfl⟩)⟩

theorem State.drainIssue_adds (s : State) : s.outstanding <+: s.drainIssue.outstanding ∧ s.issued <+: s.drainIssue.issued := by
  unfold State.drainIssue
  split
  · exact ⟨List.prefix_refl _, List.prefix_refl _⟩
  · exact ⟨List.prefix_append _ _, List.prefix_append _ _⟩

/-- The oldest held request, in no window now, is passed through to memory (R49, R76, R109). -/
theorem State.closeEvent_passes {h : Held} {q : List Held} (hq : s.holdQueue = h :: q)
    (hs : (s.holdQueue.map (·.order)).Pairwise (· < ·)) {trig : List Nat} (ht : h.order ∈ trig) (hf : s.inForce h = false)
    (hw : s.windowOf h.request.line = none) (hwait : s.waitList = []) (hc : s.hostCount < 12) (d : Bool) :
    (s.closeEvent d false trig).hasLeft h.order ∧
      Outstanding.host { order := h.order, purpose := .passThrough, request := h.request } ∈ (s.closeEvent d false trig).outstanding ∧
        BusRequest.host h.request ∈ (s.closeEvent d false trig).issued := by
  have hj : s.judged h = ⟨s, .send .passThrough h.request none, h.exhaustionMet, none⟩ := by
    unfold State.judged classify
    rw [if_neg (by simp [State.olderHeld_head hq hs]), hw]
  have hr : s.reclassify h = (s.unhold h.order).sendDown h.order .passThrough h.request none := by
    have : s.reclassify h = release h (s.judged h) := rfl
    rw [this, hj]
    rfl
  have hfirst : (s.reclassify h).firstWaits ⟨h.order, .passThrough, h.request⟩ s.hostCount := by
    rw [hr]
    refine ⟨fun g hg => ?_, ⟨[], ?_⟩, rfl⟩
    · obtain ⟨hg, hne⟩ := List.mem_filter.mp hg
      rw [hq] at hg hs
      rw [List.map_cons, List.pairwise_cons] at hs
      rcases List.mem_cons.mp hg with rfl | hg
      · simp at hne
      · exact hs.1 _ (List.mem_map_of_mem hg)
    · show insertWaiting _ s.waitList = _
      rw [hwait]
      rfl
  obtain ⟨⟨hold, ⟨rest, hrest⟩, hcount⟩, hsent⟩ := State.reexamine_first (b := true) (pre := [])
    (fun t g hg _ => t.reclassify_keeps (firstWaits_keeps _ _) g hg) hq (by simp) ht hf hfirst (by rw [hj]; rfl)
  have hclose : s.closeEvent d false trig = (s.reexamine trig).state.issueHost.drainIssue := by
    unfold State.closeEvent
    dsimp only
    rw [hsent rfl, Bool.or_true, Bool.or_true, if_pos rfl, if_pos rfl]
  obtain ⟨hout, hiss⟩ := State.issueHost_first hrest (hcount ▸ hc)
  obtain ⟨aout, aiss⟩ := (s.reexamine trig).state.issueHost.drainIssue_adds
  rw [hclose]
  refine ⟨fun g hg => ?_, aout.subset hout, aiss.subset hiss⟩
  rw [State.drainIssue_holdQueue] at hg
  exact Nat.ne_of_gt (hold g hg)

/-! ### The completion -/

/-- The entry of a drain write that completed OKAY is freed (R39, R114). -/
def State.entryFreed (s : State) (w : WindowId) (l : Line) : State := s.freeEntries (·.isCommittedOf w l)

theorem State.drained_eq (s : State) (w : WindowId) (l : Line) :
    s.drained w l =
      ((s.entryFreed w l).testOff w).closeEvent true false
        (((s.entryFreed w l).testOff w).heldWithRoom ++ ((s.entryFreed w l).testOff w).heldOnLine w l ++
          (s.entryFreed w l).heldByOff ((s.entryFreed w l).testOff w) w) := rfl

@[simp] theorem State.entryFreed_window (s : State) (w u : WindowId) (l : Line) : (s.entryFreed w l).window u = s.window u := by
  simp [State.entryFreed]

/-- The test of R17 when the entry of the line has been freed. -/
theorem State.entryFreed_off {w : WindowId} {l : Line} :
    (s.entryFreed w l).canTurnOff w = true ↔ (s.window w).state = .closing ∧
      (∀ e ∈ s.pool, e.window = w → e.isCommittedOf w l = true) ∧ ∀ o ∈ s.outstanding, o.isDrainOf w = false := by
  rw [State.canTurnOff_iff, State.entryFreed_window]
  refine and_congr Iff.rfl (and_congr ?_ Iff.rfl)
  simp only [State.inUse, State.entryFreed, State.freeEntries_pool, List.countP_eq_zero, List.mem_filter, Bool.not_eq_true', beq_iff_eq,
    and_imp, Bool.eq_false_iff]
  exact ⟨fun h e he hw => by_contra fun hn => h e he hn hw, fun h e he hn hw => hn (h e he hw)⟩

/-- The oldest held write of a window that the free gives room, or whose line it frees, is staged (R40, R74, R76). -/
theorem State.drained_stages {w : WindowId} {l : Line} {h : Held} {q : List Held} (hq : s.holdQueue = h :: q) (hp : s.portsAgree)
    (he : (s.committedEntry w l).isSome = true) (hr : s.reserveKept) (hu : s.inUse w ≤ (s.window w).desc.quota.toNat)
    (hreason : h.reason = .exhausted ∨ (h.reason = .lineDraining ∧ h.line = l)) (hw : s.heldWrite h w)
    (hst : (s.window w).state = .active) (hready : (s.window w).ready = false) :
    (s.drained w l).hasLeft h.order ∧ h.line ∈ (s.drained w l).pendingLines w ∧
      (s.drained w l).answered h.order h.request.initiator (.okay []) := by
  obtain ⟨e, he⟩ := Option.isSome_iff_exists.mp he
  have hroom : (s.entryFreed w l).allocOk w = true :=
    State.freeEntries_allocOk (fun e he => (Entry.isCommittedOf_iff.mp he).1) ⟨e, State.committedEntry_some he⟩ hr hu
  have hoff : (s.entryFreed w l).testOff w = s.entryFreed w l :=
    State.testOff_fails fun hc => by simp [(State.entryFreed_off.mp hc).1] at hst
  have hwin : h.window = some w := hw.1
  have hline : h.line = h.request.line := hw.2.1
  have hnone : (s.entryFreed w l).committedEntry w l = none := List.find?_eq_none.mpr fun f hf => by simpa using (List.mem_filter.mp hf).2
  have hw' : (s.entryFreed w l).heldWrite h w := hw.congr fun u => by simp
  have htrig : h.order ∈ (s.entryFreed w l).heldWithRoom ++ (s.entryFreed w l).heldOnLine w l := by
    have hmem : h ∈ (s.entryFreed w l).holdQueue := hq ▸ List.mem_cons_self
    rcases hreason with hr | ⟨hr, hl⟩
    · exact List.mem_append_left _ (List.mem_map_of_mem (List.mem_filter.mpr ⟨hmem, by simp [hr, hwin, hroom]⟩))
    · exact List.mem_append_right _ (List.mem_map_of_mem (List.mem_filter.mpr ⟨hmem, by simp [hr, hwin, hl]⟩))
  have hforce : (s.entryFreed w l).inForce h = false := by
    rcases hreason with hr | ⟨hr, hl⟩
    · simp [State.inForce, hr, hwin, hroom]
    · simp [State.inForce, hr, hwin, hl, hnone]
  have hj : (s.entryFreed w l).judged h = stageWrite (s.entryFreed w l) w h.request false h.exhaustionMet := by
    obtain ⟨-, -, -, -, hprod, htally⟩ := hw'
    rw [State.judged_heldWrite (s := s.entryFreed w l) hq hp.holdSorted (hw.congr fun u => by simp),
      steerWrite_stages _ hprod (by simpa using hst) (by simpa using hready) (.inl htally), htally]
  obtain ⟨f, hf, hfo, hfr, -⟩ := hp.entry_of_held (hq ▸ List.mem_cons_self : h ∈ s.holdQueue)
  rw [State.drained_eq, hoff, hline]
  exact State.closeEvent_stages (s := s.entryFreed w l) (pre := []) hq (by simp) (List.mem_append_left _ htrig) hforce hj (.inr hroom)
    ⟨f, hf, hfo, hfr⟩ true false

/-- The oldest request held CLOSING for the window that becomes OFF is passed through, where no other window covers its line (R17, R74). -/
theorem State.drained_passes {w : WindowId} {l : Line} {h : Held} {q : List Held} (hq : s.holdQueue = h :: q) (hp : s.portsAgree)
    (hoff : (s.entryFreed w l).canTurnOff w = true) (hr : h.reason = .closing) (hwin : h.window = some w)
    (hno : ∀ u, u ≠ w → (s.window u).state = .off ∨ (s.window u).covers h.request.line = false) (hwait : s.waitList = [])
    (hc : s.hostCount < 12) :
    (s.drained w l).hasLeft h.order ∧
      Outstanding.host { order := h.order, purpose := .passThrough, request := h.request } ∈ (s.drained w l).outstanding ∧
        BusRequest.host h.request ∈ (s.drained w l).issued := by
  obtain ⟨-, hhold, -, hout, -, -, hwl⟩ := (s.entryFreed w l).testOff_rest w
  have hstate : (((s.entryFreed w l).testOff w).window w).state = .off := by
    rw [(State.testOff_passes hoff).1]
    rfl
  have hnone : ((s.entryFreed w l).testOff w).windowOf h.request.line = none := by
    refine List.find?_eq_none.mpr fun u _ => ?_
    by_cases hu : u = w
    · subst hu
      simp [hstate]
    · rw [State.testOff_other hu, State.entryFreed_window]
      rcases hno u hu with h | h <;> simp [h]
  have htrig : h.order ∈ (s.entryFreed w l).heldByOff ((s.entryFreed w l).testOff w) w := by
    rw [State.heldByOff, if_pos hoff]
    refine List.mem_map_of_mem (List.mem_filter.mpr ⟨?_, by simp [hr, hwin]⟩)
    rw [hhold]
    exact hq ▸ List.mem_cons_self
  have hsorted : (((s.entryFreed w l).testOff w).holdQueue.map (·.order)).Pairwise (· < ·) := by
    rw [hhold]
    exact hp.holdSorted
  rw [State.drained_eq]
  refine State.closeEvent_passes (hhold.trans hq) hsorted (List.mem_append_right _ htrig) (by simp [State.inForce, hr, hwin, hstate])
    hnone (hwl.trans hwait) ?_ true
  rw [State.hostCount, hout]
  exact hc

/-- Settles O36: the free (`State.freeEntry_spec`), the test of R17, and the close of the event, in which the oldest held request may leave
(`State.drained_stages`, `State.drained_passes`). -/
theorem drainWritesComplete : Obligations.DrainWritesComplete := by
  intro s l w pre post off ho hpre hb he hoff
  obtain ⟨e, he⟩ := Option.isSome_iff_exists.mp he
  obtain ⟨hfirst, -⟩ := State.drainCompletion_found ho hpre hb he
  obtain ⟨b, hbdef⟩ : ∃ b : State, b = { s with outstanding := pre ++ post } := ⟨_, rfl⟩
  rw [← hbdef] at hfirst
  have hbwin : ∀ u, b.window u = s.window u := fun u => by rw [hbdef]; rfl
  have hbq : b.holdQueue = s.holdQueue := by rw [hbdef]
  have hbb : b.port.busy = false := by rw [hbdef]; exact hb
  have hbl : ∀ u, b.committedLines u = s.committedLines u ∧ b.pendingList u = s.pendingList u := by
    rw [hbdef]
    exact fun u => ⟨rfl, rfl⟩
  have hbe : (b.committedEntry w l).isSome = true := by rw [hbdef]; exact Option.isSome_iff_exists.mpr ⟨e, he⟩
  have hagree : s.portsAgree → b.portsAgree := fun hp => by rw [hbdef]; exact hp.completed ho
  have htest : off = true ↔ (b.entryFreed w l).canTurnOff w = true := by
    rw [hoff, State.entryFreed_off, hbwin, hbdef]
  obtain ⟨hfq, hfc, hfo, hfp⟩ := State.freeEntry_spec hbe
  obtain ⟨tpool, thold, -, tout, tq, tiss, -⟩ := (b.entryFreed w l).testOff_rest w
  have tcomm : ∀ u, ((b.entryFreed w l).testOff w).committedLines u = (b.entryFreed w l).committedLines u := fun u => by
    rw [State.committedLines, State.committedSet, tpool]
    rfl
  have tbusy : ((b.entryFreed w l).testOff w).port.busy = false := by
    rw [State.testOff_port]
    exact hbb
  refine ⟨b.drained w l, congrArg Host.Outcome.next hfirst, ?_, fun u hu => ⟨?_, ?_⟩, fun h1 => ?_, fun h1 => ⟨?_, fun hnone => ?_⟩, ?_,
    fun hnone => ⟨?_, ?_, ?_⟩, fun h q hq hp => ⟨fun hr hu hreason hw hst hready => ?_, fun h1 hreason hwin hno hwait hc => ?_⟩⟩
  · rw [State.drained_eq, State.closeEvent_committedLines, tcomm, ← (hbl w).1]
    exact hfc
  · rw [State.drained_eq, State.closeEvent_committedLines, tcomm, ← (hbl u).1]
    exact hfo u hu
  · rw [State.drained_eq, State.closeEvent_scheduled, State.testOff_other hu, State.entryFreed_window, hbwin]
  · have hpass := (State.testOff_passes (htest.mp h1)).1
    rw [State.drained_eq, (State.closeEvent_window _ _ _ _ w).2 (by simp [hpass, Window.shut]), hpass, State.entryFreed_window, hbwin]
  · rw [State.drained_eq, State.closeEvent_scheduled, State.testOff_fails (by rw [← htest]; simp [h1]), State.entryFreed_window, hbwin]
  · rw [State.drained_eq, State.closeEvent_drains (thold.trans (hbq.trans hnone)), State.drainIssue_window,
      State.testOff_fails (by rw [← htest]; simp [h1]), State.entryFreed_window, hbwin]
  · rw [State.drained_eq]
    exact State.closeEvent_settled tbusy _ _
  · have hqueue : ((b.entryFreed w l).testOff w).drainQueue = s.drainQueue.filter fun d => d ≠ ⟨w, l⟩ := by
      refine tq.trans (hfq.trans ?_)
      rw [hbdef]
    rw [State.drained_eq, State.closeEvent_drains (thold.trans (hbq.trans hnone)), ← hqueue, ← hbdef]
    exact State.drainIssue_issuesFrom tbusy tout.symm tiss.symm
  · rw [State.drained_eq, State.closeEvent_drains (thold.trans (hbq.trans hnone)), State.drainIssue_notif]
    by_cases h1 : off = true
    · rw [if_pos h1, (State.testOff_passes (htest.mp h1)).2, hbdef]
      rfl
    · rw [if_neg h1, State.testOff_fails (by rw [← htest]; exact h1), hbdef]
      rfl
  · rw [State.drained_eq, State.closeEvent_drains (thold.trans (hbq.trans hnone)), State.drainIssue_pendingList, State.pendingList, tpool,
      ← (hbl w).2]
    exact hfp w
  · have hq' : b.holdQueue = h :: q := hbq.trans hq
    have hr' : b.reserveKept := by rw [hbdef]; exact hr
    have hu' : b.inUse w ≤ (b.window w).desc.quota.toNat := by rw [hbdef]; exact hu
    refine State.drained_stages hq' (hagree hp) hbe hr' hu' hreason ?_ (by rw [hbwin]; exact hst) (by rw [hbwin]; exact hready)
    exact hw.congr fun u => by rw [hbwin]; exact ⟨rfl, Iff.rfl⟩
  · have hwait' : b.waitList = [] := by rw [hbdef]; exact hwait
    have hc' : b.hostCount < 12 := by
      rw [State.hostCount, ho] at hc
      rw [State.hostCount, hbdef]
      simpa [List.countP_append, List.countP_cons, Outstanding.isHost] using hc
    exact State.drained_passes (hbq.trans hq) (hagree hp) (htest.mp h1) hreason hwin (by simpa only [hbwin] using hno) hwait' hc'

end Sys2Proof.Machine
end

section
/-! What a re-examination leaves of the hold queue, of the answers and of the notifications, and re-examinations that classify one request
afresh or none (R72 to R76). -/

namespace Sys2Proof.Machine

variable {s : State}

/-! ### What a re-examination leaves -/

/-- No request joins the hold queue, and none changes its place in it (R71, R73, R76). -/
theorem holdOrders_keeps (L : List Nat) : PassKeeps fun t => (t.holdQueue.map (·.order)).Sublist L where
  notify _ _ _ _ _ h := h
  update _ _ _ _ h := h
  allocate _ _ _ _ _ _ h := h
  merge _ _ _ _ h := h
  rehold t g reason w met _ h := by
    have hcomp : (fun g : Held => g.order) ∘ Held.reheld g.order reason w met = fun g => g.order :=
      funext fun k => k.reheld_order _ _ _ _
    rw [State.rehold_holdQueue, List.map_map, hcomp]
    exact h
  answer _ _ _ _ _ h := (List.filter_sublist.map _).trans h
  send _ _ _ _ _ _ _ _ h := (List.filter_sublist.map _).trans h

theorem State.closeEvent_holdOrders (d snt : Bool) (trig : List Nat) :
    ((s.closeEvent d snt trig).holdQueue.map (·.order)).Sublist (s.holdQueue.map (·.order)) :=
  State.closeEvent_keeps (P := fun t => (t.holdQueue.map fun g : Held => g.order).Sublist (s.holdQueue.map fun g : Held => g.order))
    (fun t g hg _ => t.reclassify_keeps (holdOrders_keeps _) g hg) (fun _ h => h) (fun t h => by simpa using h) s d snt trig
    (List.Sublist.refl _)

/-- A request that is not held stays so (R71). -/
theorem State.hasLeft.closeEvent {n : Nat} (h : s.hasLeft n) (d snt : Bool) (trig : List Nat) : (s.closeEvent d snt trig).hasLeft n :=
  fun g hg ho => by
    obtain ⟨k, hk, hko⟩ := List.mem_map.mp ((s.closeEvent_holdOrders d snt trig).subset (List.mem_map_of_mem hg))
    exact h k hk (hko.trans ho)

/-- No answer that has left is taken back (R48). -/
theorem answers_keeps (A : List Answer) : PassKeeps fun t => A <+: t.answers where
  notify _ _ _ _ _ h := h
  update _ _ _ _ h := h
  allocate _ _ _ _ _ _ h := h
  merge _ _ _ _ h := h
  rehold _ _ _ _ _ _ h := h
  answer _ _ _ _ _ h := h.trans (List.prefix_append _ _)
  send _ _ _ _ _ _ _ _ h := h

theorem State.closeEvent_answers (d snt : Bool) (trig : List Nat) : s.answers <+: (s.closeEvent d snt trig).answers :=
  State.closeEvent_keeps (P := fun t => s.answers <+: t.answers) (fun t g hg _ => t.reclassify_keeps (answers_keeps _) g hg)
    (fun _ h => h) (fun t h => by simpa using h) s d snt trig (List.prefix_refl _)

/-- An event of the kind and subject is on record, or one has been dropped since the overflow count stood at `c` (R173, R177). -/
def Notifier.noted (n : Notifier) (k : NotifKind) (u : Subject) (c : Nat) : Prop :=
  (∃ x ∈ n.queue, x.kind = k ∧ x.subject = u) ∨ c < n.overflow ∨ 65535 ≤ n.overflow

/-- Recording keeps each record's kind and subject, and the overflow count does not fall (R173, R177). -/
theorem Notifier.record_grows (n : Notifier) (x : NotifRecord) :
    n.queue.map (fun y => (y.kind, y.subject)) <+: (n.record x).queue.map (fun y => (y.kind, y.subject)) ∧
      n.overflow ≤ (n.record x).overflow := by
  rcases n.record_cases x with ⟨e, -⟩ | ⟨e, -⟩ | ⟨e, -⟩ | ⟨e, -⟩ <;> rw [e]
  · exact ⟨List.prefix_refl _, Nat.le_refl _⟩
  · refine ⟨?_, Nat.le_refl _⟩
    have hcut : n.queue.take 1 ++ n.queue.tail = n.queue := by cases n.queue <;> rfl
    dsimp only
    rw [List.map_append, coalesce_keys, ← List.map_append, hcut]
  · dsimp only
    rw [List.map_append]
    exact ⟨List.prefix_append _ _, Nat.le_refl _⟩
  · refine ⟨List.prefix_refl _, ?_⟩
    dsimp only
    rw [satInc_eq]
    omega

theorem Notifier.mem_keys {n : Notifier} {k : NotifKind} {u : Subject} :
    (∃ x ∈ n.queue, x.kind = k ∧ x.subject = u) ↔ (k, u) ∈ n.queue.map fun y => (y.kind, y.subject) := by
  simp only [List.mem_map, Prod.mk.injEq]

theorem Notifier.noted.record {n : Notifier} {k : NotifKind} {u : Subject} {c : Nat} (h : n.noted k u c) (x : NotifRecord) :
    (n.record x).noted k u c := by
  obtain ⟨hq, ho⟩ := n.record_grows x
  rcases h with h | h | h
  · exact .inl (Notifier.mem_keys.mpr (hq.subset (Notifier.mem_keys.mp h)))
  · exact .inr (.inl (by omega))
  · exact .inr (.inr (by omega))

/-- An event of a kind that is not masked is noted (R171, R173). -/
theorem Notifier.record_noted (n : Notifier) (x : NotifRecord) (h : n.mask.getLsbD x.kind.code = true) :
    (n.record x).noted x.kind x.subject n.overflow := by
  rcases n.record_cases x with ⟨-, hm⟩ | ⟨e, y, hy, hfor⟩ | ⟨e, -⟩ | ⟨e, -⟩
  · rw [h] at hm
    cases hm
  · obtain ⟨hq, -⟩ := n.record_grows x
    refine .inl (Notifier.mem_keys.mpr (hq.subset (Notifier.mem_keys.mp ⟨y, List.mem_of_mem_tail hy, ?_⟩)))
    simpa [NotifRecord.isFor] using hfor
  · rw [e]
    exact .inl ⟨x, by simp, rfl, rfl⟩
  · rw [e]
    refine .inr ?_
    dsimp only
    rw [satInc_eq]
    omega

/-- A re-examination only adds to what is noted (R173). -/
theorem noted_keeps (k : NotifKind) (u : Subject) (c : Nat) : PassKeeps fun t => t.notif.noted k u c where
  notify _ _ _ _ _ h := h.record _
  update _ _ _ _ h := h
  allocate _ _ _ _ _ _ h := h
  merge _ _ _ _ h := h
  rehold _ _ _ _ _ _ h := h
  answer _ _ _ _ _ h := h
  send _ _ _ _ _ _ _ _ h := h

theorem State.closeEvent_noted {k : NotifKind} {u : Subject} {c : Nat} (h : s.notif.noted k u c) (d snt : Bool) (trig : List Nat) :
    (s.closeEvent d snt trig).notif.noted k u c :=
  State.closeEvent_keeps (P := fun t => t.notif.noted k u c) (fun t g hg _ => t.reclassify_keeps (noted_keeps k u c) g hg)
    (fun _ h => h) (fun t h => by simpa using h) s d snt trig h

/-! ### Passes that classify one request afresh, or none -/

/-- A pass comes to no request whose reason is no longer in force (R72). -/
theorem Pass.foldl_inForce (l : List Nat) {p : Pass} (h : ∀ g ∈ p.state.holdQueue, g.order ∈ p.trig → p.state.inForce g = true) :
    l.foldl Pass.reach p = p := by
  induction l with
  | nil => rfl
  | cons n l ih =>
    rw [List.foldl_cons, Pass.reach_over fun ht g hg ho => h g hg (ho ▸ ht)]
    exact ih

/-- Where each triggered request still has its reason in force, the event changes nothing more (R72). -/
theorem State.closeEvent_inForce {trig : List Nat} (h : ∀ g ∈ s.holdQueue, g.order ∈ trig → s.inForce g = true) :
    s.closeEvent false false trig = s := by
  have hre : s.reexamine trig = ⟨s, trig, [], false⟩ := by
    unfold State.reexamine Pass.runAll Pass.run
    dsimp only
    rw [Pass.foldl_inForce (p := ⟨s, trig, [], false⟩) _ h]
    rfl
  unfold State.closeEvent
  rw [hre]
  rfl

/-- One request alone is triggered, its reason no longer in force, and its classification triggers none: it alone is classified
afresh (R72, R75). -/
theorem State.closeEvent_single {g : Held} {pre post : List Held} (hq : s.holdQueue = pre ++ g :: post)
    (hn : (s.holdQueue.map (·.order)).Nodup) {trig : List Nat} (ht : ∀ n, n ∈ trig ↔ n = g.order) (hf : s.inForce g = false)
    (hbehind : (s.judged g).verdict.leaves = true → (s.reclassify g).orderBehind g.request.initiator g.order = [])
    (hwakes : (s.judged g).woke = none) :
    s.closeEvent false false trig =
      if (s.judged g).verdict.sends then (s.reclassify g).issueHost.drainIssue else s.reclassify g := by
  have hother : ∀ l : List Held, (∀ k ∈ l, k.order ≠ g.order) → ∀ n ∈ l.map (·.order), n ∉ trig := fun l hl n hn hm => by
    obtain ⟨k, hk, rfl⟩ := List.mem_map.mp hn
    exact hl k hk ((ht _).mp hm)
  rw [hq, List.map_append, List.map_cons, List.nodup_append, List.nodup_cons] at hn
  obtain ⟨-, ⟨hpost, -⟩, hpre⟩ := hn
  have hpre' : ∀ k ∈ pre, k.order ≠ g.order := fun k hk => hpre _ (List.mem_map_of_mem hk) _ List.mem_cons_self
  have hpost' : ∀ k ∈ post, k.order ≠ g.order := fun k hk e => hpost (e ▸ List.mem_map_of_mem hk)
  have hfind : s.holdQueue.find? (·.order == g.order) = some g := by
    rw [hq, List.find?_append, List.find?_eq_none.mpr fun k hk => by simpa using hpre' k hk]
    simp
  have hw : (s.judged g).wakes (s.reclassify g) = [] := by
    unfold Steered.wakes
    rw [hwakes]
  have hb : (if (s.judged g).verdict.leaves then (s.reclassify g).orderBehind g.request.initiator g.order else []) = [] := by
    split
    · next hl => exact hbehind hl
    · rfl
  have hreach : Pass.reach ⟨s, trig, [], false⟩ g.order = ⟨s.reclassify g, trig, [], (s.judged g).verdict.sends⟩ := by
    rw [Pass.reach_eq (p := ⟨s, trig, [], false⟩) hfind ((ht _).mpr rfl) hf]
    dsimp only
    rw [hw, hb]
    simp
  have hrun : Pass.run ⟨s, trig, [], false⟩ = ⟨s.reclassify g, trig, [], (s.judged g).verdict.sends⟩ := by
    unfold Pass.run
    dsimp only
    rw [hq, List.map_append, List.foldl_append, Pass.foldl_over (p := ⟨s, trig, [], false⟩) _ (hother pre hpre'), List.map_cons,
      List.foldl_cons, hreach]
    exact Pass.foldl_over (p := ⟨s.reclassify g, trig, [], (s.judged g).verdict.sends⟩) _ (hother post hpost')
  have hre : s.reexamine trig = ⟨s.reclassify g, trig, [], (s.judged g).verdict.sends⟩ := by
    unfold State.reexamine Pass.runAll
    dsimp only
    rw [hrun]
    rfl
  unfold State.closeEvent
  dsimp only
  rw [hre]
  cases (s.judged g).verdict.sends <;> rfl

end Sys2Proof.Machine
end

section
/-! Hold timeouts (R80), and the ORDER request behind the one that leaves (R72 to R76). -/

namespace Sys2Proof.Machine

variable {s : State}

/-- The state in which the request has timed out, before those behind it are looked at again (R80). -/
def State.expired (s : State) (h : Held) : State :=
  (((s.unhold h.order).determine h.order h.request.initiator .error).countTimeout h.window).notify .holdTimeout
    (.initiator h.request.initiator) (some h.line) (some h.request.initiator)

/-- The request of a place in a queue without repeats, found and taken out. -/
theorem State.held_at {h : Held} {pre post : List Held} (hq : s.holdQueue = pre ++ h :: post) (hn : (s.holdQueue.map (·.order)).Nodup) :
    (∀ g ∈ s.holdQueue, g.order = h.order → g = h) ∧ s.holdQueue.filter (fun g => g.order != h.order) = pre ++ post := by
  have huniq : ∀ g ∈ s.holdQueue, g.order = h.order → g = h := fun g hg ho =>
    List.inj_on_of_nodup_map hn hg (hq ▸ by simp) ho
  refine ⟨huniq, ?_⟩
  rw [hq, List.map_append, List.map_cons, List.nodup_append, List.nodup_cons] at hn
  obtain ⟨-, ⟨hpost, -⟩, hpre⟩ := hn
  rw [hq, List.filter_append, List.filter_cons, if_neg (by simp), List.filter_eq_self.mpr fun g hg => ?_,
    List.filter_eq_self.mpr fun g hg => ?_]
  · simpa using fun e : g.order = h.order => hpost (e ▸ List.mem_map_of_mem hg)
  · simpa using hpre _ (List.mem_map_of_mem hg) _ List.mem_cons_self

/-- A hold timeout at its deadline (R80). -/
theorem exec_holdTimeout {h : Held} {pre post : List Held} (hq : s.holdQueue = pre ++ h :: post)
    (hn : (s.holdQueue.map (·.order)).Nodup) (hd : h.deadline ≤ s.timeBase) :
    exec (.holdTimeout h.order) s =
      .next ((s.expired h).closeEvent false false ((s.expired h).orderBehind h.request.initiator h.order)) := by
  have hfind : s.timedOut h.order = some h := by
    unfold State.timedOut
    cases hf : s.holdQueue.find? (fun g => g.order == h.order && decide (g.deadline ≤ s.timeBase)) with
    | none => simpa [hd] using List.find?_eq_none.mp hf h (hq ▸ by simp)
    | some g =>
      have hg := List.find?_some hf
      simp only [Bool.and_eq_true, beq_iff_eq] at hg
      exact congrArg some ((State.held_at hq hn).1 g (List.mem_of_find?_eq_some hf) hg.1)
  show Host.Outcome.next _ = _
  rw [hfind]
  rfl

theorem State.countTimeout_holdQueue (w : Option WindowId) : (s.countTimeout w).holdQueue = s.holdQueue := by
  cases w <;> rfl

theorem State.expired_holdQueue {h : Held} {pre post : List Held} (hq : s.holdQueue = pre ++ h :: post)
    (hn : (s.holdQueue.map (·.order)).Nodup) : (s.expired h).holdQueue = pre ++ post :=
  (State.countTimeout_holdQueue h.window).trans (State.held_at hq hn).2

/-- The timeout changes of a window its count alone (R11, R80). -/
theorem State.expired_window (s : State) (h : Held) (w : WindowId) :
    (s.expired h).window w = { s.window w with holdTimeouts := ((s.expired h).window w).holdTimeouts } := by
  have hw : (s.expired h).window w = (s.countTimeout h.window).window w := by
    unfold State.expired State.countTimeout
    cases h.window with
    | none => rfl
    | some u =>
      by_cases e : w = u
      · subst e
        simp
      · simp [State.updWindow_other, e]
  rw [hw]
  unfold State.countTimeout
  cases h.window with
  | none => rfl
  | some u =>
    by_cases e : w = u
    · subst e
      simp
    · simp [State.updWindow_other, e]

/-- So it leaves what steering looks at. -/
theorem State.expired_fields (s : State) (h : Held) (w : WindowId) :
    ((s.expired h).window w).desc = (s.window w).desc ∧ ((s.expired h).window w).state = (s.window w).state ∧
      ((s.expired h).window w).ready = (s.window w).ready ∧
      (∀ i, ((s.expired h).window w).isProducer i = (s.window w).isProducer i) ∧
      ∀ r, ((s.expired h).window w).tallyWrite r = (s.window w).tallyWrite r := by
  rw [s.expired_window h w]
  exact ⟨rfl, rfl, rfl, fun _ => rfl, fun _ => rfl⟩

/-- Neither does it change what the windows cover, show and stage. -/
theorem State.expired_views (s : State) (h : Held) :
    (∀ l, (s.expired h).windowOf l = s.windowOf l) ∧ (∀ w r, (s.expired h).capture w r = s.capture w r) ∧
      (∀ w, (s.expired h).allocOk w = s.allocOk w) ∧ ∀ w l, (s.expired h).pendingEntry w l = s.pendingEntry w l := by
  have hpool : (s.expired h).pool = s.pool := by
    unfold State.expired State.countTimeout
    cases h.window <;> rfl
  have hstate : ∀ u, ((s.expired h).window u).state = (s.window u).state := fun u => (s.expired_fields h u).2.1
  have hdesc : ∀ u, ((s.expired h).window u).desc = (s.window u).desc := fun u => (s.expired_fields h u).1
  have huse : ∀ u, (s.expired h).inUse u = s.inUse u := fun u => by rw [State.inUse, hpool]; rfl
  have hreserve : (s.expired h).totalReserve = s.totalReserve :=
    congrArg List.sum (List.map_congr_left fun u _ => by rw [State.outstandingReserve, hstate, hdesc, huse]; rfl)
  refine ⟨fun l => ?_, fun w r => List.map_congr_left fun i _ => ?_, fun w => ?_, fun w l => by rw [State.pendingEntry, hpool]; rfl⟩
  · unfold State.windowOf
    simp only [hstate, Window.covers, hdesc]
  · have htally : ∀ l p, ((s.expired h).window w).isTally l p = (s.window w).isTally l p := fun l p => by
      rw [Window.isTally, hdesc]
      rfl
    have hbyte : ∀ p, ((s.expired h).window w).tallyByte p = (s.window w).tallyByte p := fun p => by
      rw [s.expired_window h w]
      rfl
    obtain ⟨-, -, -, hprod, -⟩ := s.expired_fields h w
    have hpending : ∀ l p, (s.expired h).pendingByte w l p = s.pendingByte w l p := fun l p => by
      rw [State.pendingByte, State.pendingEntry, hpool]
      rfl
    have hcommitted : ∀ l p, (s.expired h).committedByte w l p = s.committedByte w l p := fun l p => by
      rw [State.committedByte, State.committedEntry, hpool]
      rfl
    unfold State.viewByte
    rw [htally, hbyte, hprod, hpending, hcommitted]
  · have hfree : (s.expired h).freeCount = s.freeCount := by rw [State.freeCount, hpool]; rfl
    unfold State.allocOk
    rw [hdesc, huse, hreserve, hfree]

end Sys2Proof.Machine
end

section
/-! The ORDER request that stands behind the request that leaves (R72 to R76), and hold timeouts (R80). -/

namespace Sys2Proof.Machine

variable {s : State}

/-! ### One ORDER request alone -/

/-- `g` is the oldest held request of its initiator and is held ORDER, as no other held request of its initiator is (R52, R72). -/
structure State.orderAlone (s : State) (g : Held) (pre post : List Held) : Prop where
  queue : s.holdQueue = pre ++ g :: post
  sorted : (s.holdQueue.map (·.order)).Pairwise (· < ·)
  reason : g.reason = .order
  oldest : ∀ k ∈ pre, k.request.initiator ≠ g.request.initiator
  alone : ∀ k ∈ post, k.request.initiator = g.request.initiator → k.reason ≠ .order

section
variable {g : Held} {pre post : List Held} (ha : s.orderAlone g pre post)
include ha

theorem State.orderAlone.nodup : (s.holdQueue.map (·.order)).Nodup := ha.sorted.imp fun h => Nat.ne_of_lt h

/-- No older request of its initiator is held (R72). -/
theorem State.orderAlone.olderHeld : s.olderHeld g.request.initiator g.order = false := by
  have hs := ha.sorted
  rw [ha.queue, List.map_append, List.map_cons, List.pairwise_append, List.pairwise_cons] at hs
  obtain ⟨-, ⟨hpost, -⟩, -⟩ := hs
  simp only [State.olderHeld, List.any_eq_false, Bool.and_eq_true, beq_iff_eq, decide_eq_true_eq, not_and, ha.queue, List.mem_append,
    List.mem_cons]
  rintro k (hk | rfl | hk) hi
  · exact absurd hi (ha.oldest k hk)
  · exact Nat.lt_irrefl _
  · exact Nat.not_lt.mpr (Nat.le_of_lt (hpost _ (List.mem_map_of_mem hk)))

theorem State.orderAlone.inForce : s.inForce g = false := by
  unfold State.inForce
  rw [ha.reason]
  exact ha.olderHeld

theorem State.orderAlone.unhold : s.unhold g.order = { s with holdQueue := pre ++ post } := by
  unfold State.unhold
  rw [(State.held_at ha.queue ha.nodup).2]

/-- Once it has left, no ORDER request of its initiator is held (R74). -/
theorem State.orderAlone.orderBehind {t : State} (ht : t.holdQueue = pre ++ post) : t.orderBehind g.request.initiator g.order = [] := by
  simp only [State.orderBehind, State.heldWhere, List.map_eq_nil_iff, List.filter_eq_nil_iff, Bool.and_eq_true, beq_iff_eq,
    decide_eq_true_eq, not_and, ht, List.mem_append]
  rintro k (hk | hk) ⟨hr, hi⟩
  · exact absurd hi (ha.oldest k hk)
  · exact absurd hr (ha.alone k hk hi)

/-- No held request ahead of it stands at its place. -/
theorem State.orderAlone.ahead {k : Held} (hk : k ∈ pre) : k.order ≠ g.order := by
  have hn := ha.nodup
  rw [ha.queue, List.map_append, List.map_cons, List.nodup_append] at hn
  obtain ⟨-, -, hpre⟩ := hn
  exact hpre _ (List.mem_map_of_mem hk) _ List.mem_cons_self

/-- It is judged by steps 3 and 4 of R49. -/
theorem State.orderAlone.judged :
    (s.windowOf g.request.line = none → s.judged g = ⟨s, .send .passThrough g.request none, g.exhaustionMet, none⟩) ∧
      ∀ w, s.windowOf g.request.line = some w → s.judged g = steerInWindow s w g.request g.exhaustionMet := by
  unfold State.judged classify
  rw [if_neg (by simp [ha.olderHeld])]
  exact ⟨fun h => by rw [h], fun w h => by rw [h]⟩

variable {trig : List Nat} (ht : ∀ n, n ∈ trig ↔ n = g.order)
include ht

/-- It is answered, and the answers of its initiator leave as far as they can (R48, R76). -/
theorem State.orderAlone.answers {x : State} {a : AnswerForm} {cap : Option (List (Option Byte))} {met : Bool}
    (hj : s.judged g = ⟨x, .answer a cap, met, none⟩) :
    s.closeEvent false false trig =
      (({ x with holdQueue := pre ++ post } : State).setCapture g.order cap).determine g.order g.request.initiator a := by
  have hx : s.sameButStore x := by
    have : s.sameButStore (s.judged g).state := classify_frame s _ _ _ _
    rwa [hj] at this
  have hq : x.unhold g.order = { x with holdQueue := pre ++ post } := by
    have hold : x.holdQueue = s.holdQueue := by
      rw [State.sameButStore] at hx
      rw [hx]
    unfold State.unhold
    rw [hold, (State.held_at ha.queue ha.nodup).2]
  have hr : s.reclassify g = (({ x with holdQueue := pre ++ post } : State).setCapture g.order cap).determine g.order
      g.request.initiator a := by
    have : s.reclassify g = release g (s.judged g) := rfl
    rw [this, hj, ← hq]
    rfl
  have hbehind := ha.orderBehind (t := s.reclassify g) (by rw [hr]; rfl)
  rw [State.closeEvent_single ha.queue ha.nodup ht ha.inForce (fun _ => hbehind) (by rw [hj]), hj, ← hr]
  rfl

/-- It goes to memory at once, and the drain engine applies its rule (R76, R109, R110). -/
theorem State.orderAlone.sends {p : Purpose} {r : Request} {cap : Option (List (Option Byte))} {met : Bool}
    (hj : s.judged g = ⟨s, .send p r cap, met, none⟩) (hw : s.waitList = []) (hc : s.hostCount < 12) :
    s.closeEvent false false trig =
      ({ (({ s with holdQueue := pre ++ post } : State).setCapture g.order cap).setStatus g.order .downstream with
          outstanding := s.outstanding ++ [.host ⟨g.order, p, r⟩]
          issued := s.issued ++ [.host r] } : State).drainIssue := by
  have hr : s.reclassify g =
      ((({ s with holdQueue := pre ++ post } : State).setCapture g.order cap).setStatus g.order .downstream).handOver ⟨g.order, p, r⟩ := by
    have : s.reclassify g = release g (s.judged g) := rfl
    rw [this, hj, ← ha.unhold]
    rfl
  have hbehind := ha.orderBehind (t := s.reclassify g) (by rw [hr]; rfl)
  rw [State.closeEvent_single ha.queue ha.nodup ht ha.inForce (fun _ => hbehind) (by rw [hj]), hj, hr, Verdict.sends, if_pos rfl]
  exact congrArg State.drainIssue (State.issueHost_handOver hw hc)

/-- It is held again in its place (R73). -/
theorem State.orderAlone.holdsAgain {reason : HoldReason} {w : Option WindowId}
    (hj : s.judged g = ⟨s, .hold reason w, g.exhaustionMet, none⟩) :
    s.closeEvent false false trig =
      { s with holdQueue := pre ++ { g with reason := reason, window := w, line := g.request.line } :: post } := by
  have hn := ha.nodup
  rw [ha.queue, List.map_append, List.map_cons, List.nodup_append, List.nodup_cons] at hn
  obtain ⟨-, ⟨hpost, -⟩, hpre⟩ := hn
  have hr : s.reclassify g = s.rehold g.order reason w g.exhaustionMet := by
    have : s.reclassify g = release g (s.judged g) := rfl
    rw [this, hj]
    rfl
  have hq : s.holdQueue.map (Held.reheld g.order reason w g.exhaustionMet) =
      pre ++ { g with reason := reason, window := w, line := g.request.line } :: post := by
    rw [ha.queue, List.map_append, List.map_cons,
      Held.reheld_others _ _ _ fun k hk => hpre _ (List.mem_map_of_mem hk) _ List.mem_cons_self,
      Held.reheld_others _ _ _ fun k hk e => hpost (List.mem_map.mpr ⟨k, hk, e⟩), Held.reheld, if_pos rfl]
  rw [State.closeEvent_single ha.queue ha.nodup ht ha.inForce (fun h => by rw [hj] at h; cases h) (by rw [hj]), hj, hr, ← hq]
  rfl

end

/-! ### The timeout -/

/-- What the timeout leaves of the ports, but for the answer that it gives (R80). -/
theorem State.expired_ports (s : State) (h : Held) :
    (s.expired h).waitList = s.waitList ∧ (s.expired h).hostCount = s.hostCount ∧ (s.expired h).inflight =
      (s.determine h.order h.request.initiator .error).inflight := by
  unfold State.expired State.countTimeout
  cases h.window <;> exact ⟨rfl, rfl, rfl⟩

/-- A capture set and a status set are one change of the entry. -/
theorem State.setCapture_setStatus (s : State) (n : Nat) (cap : Option (List (Option Byte))) (st : Status) :
    ({ s with inflight := s.inflight.map fun e => if e.order = n then { e with status := st, capture := cap } else e } : State) =
      (s.setCapture n cap).setStatus n st := by
  have hmap : ((s.setCapture n cap).setStatus n st).inflight =
      s.inflight.map fun e => if e.order = n then { e with status := st, capture := cap } else e := by
    rw [State.setStatus_inflight, State.setCapture_inflight, List.map_map]
    refine List.map_congr_left fun e _ => ?_
    by_cases he : e.order = n <;> simp [he]
  rw [← hmap]
  rfl

/-- A held request's entry stays in flight while another is answered (R48). -/
theorem State.portsAgree.entry_behind {g : Held} {n : Nat} (h : s.portsAgree) (hg : g ∈ s.holdQueue) (hne : g.order ≠ n) (i : Initiator)
    (a : AnswerForm) : ∃ e ∈ (s.determine n i a).inflight, e.order = g.order ∧ e.request = g.request := by
  obtain ⟨e, he, ho, hr, hs⟩ := h.entry_of_held hg
  have hmem : e ∈ (s.setStatus n (.ready a)).inflight := by
    rw [State.setStatus_inflight]
    exact List.mem_map.mpr ⟨e, he, if_neg (by omega)⟩
  rcases departures_mem i _ hmem with hstay | ⟨b, hb, -⟩
  · exact ⟨e, hstay, ho, hr⟩
  · rw [hs] at hb
    cases hb

/-- A WRITE of an initiator that is no producer of the window (R56). -/
theorem steerWrite_foreign {r : Request} {w : WindowId} (x : Bool) (hp : (s.window w).isProducer r.initiator = false) :
    steerWrite s w r x =
      ⟨s.notify .foreignWrite (.window w) none (some r.initiator), .answer .error none, x, none⟩ := by
  unfold steerWrite
  exact if_pos (by simp [hp])

/-- An ATOMIC in a window (R54). -/
theorem steerInWindow_atomic {r : Request} {w : WindowId} {op : Nat} {data : List Byte} (x : Bool) (hk : r.kind = .atomic op data) :
    steerInWindow s w r x =
      ⟨s.notify .badRequest (.initiator r.initiator) none (some r.initiator), .answer .error none, x, none⟩ := by
  unfold steerInWindow
  rw [hk]

/-- The timeout is recorded (R80). -/
theorem State.expired_notif (s : State) (h : Held) :
    (s.expired h).notif =
      (s.notify .holdTimeout (.initiator h.request.initiator) (some h.line) (some h.request.initiator)).notif := by
  unfold State.expired State.countTimeout
  cases h.window <;> rfl

/-- Where the ORDER requests behind the one that leaves still stand behind an older one, nothing more happens (R72, R80). -/
theorem State.expired_blocked {h : Held} {pre post : List Held} (hq : s.holdQueue = pre ++ h :: post)
    (hn : (s.holdQueue.map (·.order)).Nodup)
    (hb : ∀ g ∈ pre ++ post, g.request.initiator = h.request.initiator → g.reason = .order → h.order < g.order →
      ∃ k ∈ pre ++ post, k.request.initiator = h.request.initiator ∧ k.order < g.order) :
    (s.expired h).closeEvent false false ((s.expired h).orderBehind h.request.initiator h.order) = s.expired h := by
  have hold := State.expired_holdQueue hq hn
  have hnodup : ((pre ++ post).map fun k : Held => k.order).Nodup := by
    rw [← (State.held_at hq hn).2]
    exact hn.sublist (List.filter_sublist.map _)
  refine State.closeEvent_inForce fun g hg hm => ?_
  obtain ⟨k, hk, hko⟩ := List.mem_map.mp hm
  obtain ⟨hk, hp⟩ := List.mem_filter.mp hk
  rw [hold] at hg hk
  obtain rfl : k = g := List.inj_on_of_nodup_map hnodup hk hg hko
  simp only [Bool.and_eq_true, beq_iff_eq, decide_eq_true_eq] at hp
  obtain ⟨⟨hr, hi⟩, hlt⟩ := hp
  obtain ⟨j, hj, hji, hjlt⟩ := hb k hk hi hr hlt
  unfold State.inForce
  rw [hr]
  exact List.any_eq_true.mpr ⟨j, hold ▸ hj, by simp [hji, hi, hjlt]⟩

/-- The one ORDER request behind the one that leaves (R72, R74). -/
theorem State.expired_orderAlone {h g : Held} {pre mid rest : List Held} (hq : s.holdQueue = pre ++ h :: (mid ++ g :: rest))
    (hs : (s.holdQueue.map (·.order)).Pairwise (· < ·)) (hr : g.reason = .order) (hi : g.request.initiator = h.request.initiator)
    (hold : ∀ k ∈ pre ++ mid, k.request.initiator ≠ h.request.initiator)
    (hrest : ∀ k ∈ rest, k.request.initiator = h.request.initiator → k.reason ≠ .order) :
    (s.expired h).orderAlone g (pre ++ mid) rest ∧
      ∀ n, n ∈ (s.expired h).orderBehind h.request.initiator h.order ↔ n = g.order := by
  have hqueue : (s.expired h).holdQueue = (pre ++ mid) ++ g :: rest := by
    rw [State.expired_holdQueue hq (hs.imp fun h => Nat.ne_of_lt h), List.append_assoc]
  have hlt : h.order < g.order := by
    rw [hq, List.map_append, List.map_cons, List.pairwise_append, List.pairwise_cons] at hs
    obtain ⟨-, ⟨hbehind, -⟩, -⟩ := hs
    exact hbehind _ (List.mem_map_of_mem (by simp))
  have hsub : ((pre ++ mid) ++ g :: rest).Sublist s.holdQueue := by
    rw [hq, List.append_assoc]
    exact (List.Sublist.refl pre).append (List.sublist_cons_self _ _)
  refine ⟨⟨hqueue, ?_, hr, fun k hk => hi ▸ hold k hk, fun k hk he => hrest k hk (he.trans hi)⟩, fun n => ?_⟩
  · rw [hqueue]
    exact hs.sublist (hsub.map _)
  · simp only [State.orderBehind, State.heldWhere, List.mem_map, List.mem_filter, Bool.and_eq_true, beq_iff_eq, decide_eq_true_eq, hqueue]
    constructor
    · rintro ⟨k, ⟨hk, ⟨hkr, hki⟩, -⟩, rfl⟩
      rcases List.mem_append.mp hk with hk | hk
      · exact absurd hki (hold k hk)
      · rcases List.mem_cons.mp hk with rfl | hk
        · rfl
        · exact absurd hkr (hrest k hk hki)
    · rintro rfl
      exact ⟨g, ⟨by simp, ⟨hr, hi⟩, hlt⟩, rfl⟩

/-- Settles O33: the request that leaves (`exec_holdTimeout`), and the one ORDER request behind it, classified afresh
(`State.orderAlone.answers`, `State.orderAlone.sends`, `State.orderAlone.holdsAgain`). -/
theorem heldRequestsTimeOut : Obligations.HeldRequestsTimeOut := by
  intro s timed h pre post hq hd hn htimed
  have hexec := exec_holdTimeout hq hn hd
  have hqueue := State.expired_holdQueue hq hn
  have hunhold : s.unhold h.order = { s with holdQueue := pre ++ post } := by
    unfold State.unhold
    rw [(State.held_at hq hn).2]
  have hexp : timed = s.expired h := by
    rw [htimed, State.expired, hunhold]
    cases h.window with
    | none => rfl
    | some w =>
      simp only [State.countTimeout, satInc_eq]
      rfl
  clear htimed
  subst hexp
  refine ⟨⟨_, hexec, ?_, State.closeEvent_answers _ _ _, fun w => State.closeEvent_scheduled _ _ _ w, fun hmask => ?_⟩,
    fun hb => hexec.trans (congrArg _ (State.expired_blocked hq hn hb)), ?_⟩
  · refine State.hasLeft.closeEvent (fun g hg ho => ?_) _ _ _
    rw [hqueue, ← (State.held_at hq hn).2] at hg
    simpa [ho] using (List.mem_filter.mp hg).2
  · refine State.closeEvent_noted (s := s.expired h) ?_ _ _ _
    rw [State.expired_notif]
    exact s.notif.record_noted _ hmask
  · intro g mid rest hp hpost hr hi hold hrest
    subst hpost
    obtain ⟨ha, ht⟩ := State.expired_orderAlone hq hp.holdSorted hr hi hold hrest
    obtain ⟨hout, hcap, halloc, hpend⟩ := s.expired_views h
    obtain ⟨hwait, hcount, hinfl⟩ := s.expired_ports h
    obtain ⟨hnone, hin⟩ := ha.judged
    rw [hexec]
    refine ⟨fun hw hwl hc => ?_, fun w left hw hleft => ?_⟩
    · rw [ha.sends ht (hnone ((hout _).trans hw)) (hwait.trans hwl) (hcount ▸ hc), ← State.setCapture_setStatus]
    obtain ⟨-, hstate, hready, hprod, htally⟩ := s.expired_fields h w
    refine ⟨fun cap hk hcapv => ⟨fun hall => ?_, fun hmem hwl hc => ?_⟩,
      fun op data hk => ?_, fun lanes hk => ⟨fun hp' => ?_, fun hp' => ⟨fun hst => ?_, fun reason hcase => ?_,
        fun hst hrd hta hroom => ?_⟩⟩⟩
    · have hcap' : (s.expired h).capture w g.request = cap := (hcap w g.request).trans hcapv.symm
      have hj := hin w ((hout _).trans hw)
      rw [steerInWindow_read _ hk, steerRead_covered _ (hcap' ▸ hall), hcap'] at hj
      rw [ha.answers ht hj, hleft]
      rfl
    · have hcap' : (s.expired h).capture w g.request = cap := (hcap w g.request).trans hcapv.symm
      have hj := hin w ((hout _).trans hw)
      rw [steerInWindow_read _ hk, steerRead_uncovered _ (hcap' ▸ hmem), hcap'] at hj
      rw [ha.sends ht hj (hwait.trans hwl) (hcount ▸ hc), hleft]
      rfl
    · have hj := hin w ((hout _).trans hw)
      rw [steerInWindow_atomic _ hk] at hj
      rw [ha.answers ht hj, hleft]
      rfl
    · have hj := hin w ((hout _).trans hw)
      rw [steerInWindow_write _ hk, steerWrite_foreign _ ((hprod _).trans hp')] at hj
      rw [ha.answers ht hj, hleft]
      rfl
    · have hj := hin w ((hout _).trans hw)
      rw [steerInWindow_write _ hk, steerWrite_producer _ ((hprod _).trans hp'), hstate, hst] at hj
      rw [ha.answers ht hj, hleft]
      rfl
    · have hj : (s.expired h).judged g = ⟨s.expired h, .hold reason (some w), g.exhaustionMet, none⟩ := by
        rw [hin w ((hout _).trans hw), steerInWindow_write _ hk, steerWrite_producer _ ((hprod _).trans hp'), hstate, htally, hready]
        rcases hcase with ⟨hst, rfl⟩ | ⟨hst, hrd, hta, rfl⟩
        · rw [hst]
        · rw [hst]
          simp [hrd, hta]
      rw [ha.holdsAgain ht hj]
    · have hj : (s.expired h).judged g = stageWrite (s.expired h) w g.request false g.exhaustionMet := by
        rw [hin w ((hout _).trans hw), steerInWindow_write _ hk,
          steerWrite_stages _ ((hprod _).trans hp') (hstate.trans hst) (hready.trans hrd) (.inl ((htally _).trans hta)), htally, hta]
      have hentry : ∃ e ∈ (s.expired h).inflight, e.order = g.order ∧ e.request = g.request := by
        rw [hinfl]
        refine hp.entry_behind (hq ▸ by simp) (fun e => ?_) _ _
        have hgq : g ∈ s.holdQueue.filter fun k => k.order != h.order := by
          rw [(State.held_at hq hn).2]
          simp
        simpa [e] using (List.mem_filter.mp hgq).2
      have hfirst : ∀ k ∈ pre ++ mid, k.order ∉ (s.expired h).orderBehind h.request.initiator h.order := fun k hk hm =>
        ha.ahead hk ((ht _).mp hm)
      exact ⟨_, rfl, State.closeEvent_stages ha.queue hfirst ((ht _).mpr rfl) ha.inForce hj (by rw [hpend, halloc]; exact hroom)
        hentry false false⟩

end Sys2Proof.Machine
end

section
/-! At most one PENDING and one COMMITTED entry for each window and line, through every step (R23). -/

namespace Sys2Proof.Machine

variable {s : State}

theorem State.entriesUnique_iff : s.entriesUnique ↔ (s.pool.map Entry.key).Nodup := by
  unfold State.entriesUnique List.Nodup
  rw [List.pairwise_map]
  simp [Entry.key]

/-- A pool whose entries are of the same windows, lines and generation kinds is as unique. -/
theorem State.entriesUnique.congr {t : State} (h : s.entriesUnique) (hk : t.pool.map Entry.key = s.pool.map Entry.key) :
    t.entriesUnique := by
  rw [State.entriesUnique_iff] at h ⊢
  rwa [hk]

/-- The entry of a first error stays COMMITTED (R115). -/
theorem State.requeue_keys (s : State) (w : WindowId) (l : Line) :
    (s.requeue w l).pool.map Entry.key = s.pool.map Entry.key := by
  simp only [State.requeue, List.map_map]
  refine List.map_congr_left fun e _ => ?_
  simp only [Function.comp_apply]
  split
  · next hc =>
    show (e.window, e.line, false) = e.key
    rw [Entry.key, (Entry.isCommittedOf_iff.mp hc).2.2]
  · rfl

theorem State.pendingEntry_none {w : WindowId} {l : Line} (h : s.pendingEntry w l = none) : (w, l, true) ∉ s.pool.map Entry.key := by
  intro hm
  obtain ⟨e, he, hk⟩ := List.mem_map.mp hm
  obtain ⟨hw, hl, hp⟩ : e.window = w ∧ e.line = l ∧ e.isPending = true := by simpa [Entry.key] using hk
  exact List.find?_eq_none.mp h e he (Entry.isPendingOf_iff.mpr ⟨hw, hl, hp⟩)

/-- The line that an allocation serves had no PENDING entry (R30). -/
theorem State.entriesUnique.allocate (h : s.entriesUnique) {w : WindowId} {l : Line} (hn : s.pendingEntry w l = none) :
    (s.allocate w l).entriesUnique := by
  rw [State.entriesUnique_iff] at h ⊢
  rw [State.allocate_pool, List.map_append, List.nodup_append]
  refine ⟨h, List.nodup_singleton _, fun k hk k' hk' e => ?_⟩
  obtain rfl : k' = (w, l, true) := by simpa [State.freshEntry, Entry.key, Entry.isPending] using hk'
  exact State.pendingEntry_none hn (e ▸ hk)

/-- What the commit of window `w` makes of an entry's window, line and generation kind (R26). -/
def commitKey (w : WindowId) (k : WindowId × Line × Bool) : WindowId × Line × Bool := (k.1, k.2.1, k.2.2 && k.1 != w)

theorem State.commitFrame_poolKeys (s : State) (w : WindowId) (b : BitVec 32) :
    (s.commitFrame w b).pool.map Entry.key = (s.pool.map Entry.key).map (commitKey w) := by
  obtain ⟨-, -, hpool, -⟩ := s.commitFrame_keys w b w
  rw [hpool, List.map_map, List.map_map]
  refine List.map_congr_left fun e _ => ?_
  show (if e.window == w && e.isPending then e.commit else e).key = (e.window, e.line, e.isPending && e.window != w)
  split
  · next hc =>
    obtain ⟨hw, -⟩ : e.window = w ∧ e.isPending = true := by simpa using hc
    rw [hw, bne_self_eq_false, Bool.and_false, ← hw]
    rfl
  · next hc =>
    have same : (e.isPending && e.window != w) = e.isPending := by
      revert hc
      cases e.isPending <;> simp
    rw [same]
    rfl

/-- A commit finds no COMMITTED entry of its window, so the entries it makes COMMITTED meet none of their line (R26, R90). -/
theorem State.entriesUnique.commitFrame (h : s.entriesUnique) {w : WindowId} (b : BitVec 32) (hc : s.committedSet w = []) :
    (s.commitFrame w b).entriesUnique := by
  have pending : ∀ k ∈ s.pool.map Entry.key, k.1 = w → k.2.2 = true := by
    intro k hk hw
    obtain ⟨e, he, rfl⟩ := List.mem_map.mp hk
    have none_committed := List.filter_eq_nil_iff.mp hc e he
    have hw : e.window = w := hw
    show e.isPending = true
    simpa [hw] using none_committed
  rw [State.entriesUnique_iff] at h ⊢
  rw [State.commitFrame_poolKeys]
  refine h.map_on fun k hk k' hk' e => ?_
  simp only [commitKey, Prod.mk.injEq] at e
  obtain ⟨hw, hl, hp⟩ := e
  refine Prod.ext hw (Prod.ext hl ?_)
  by_cases hkw : k.1 = w
  · rw [pending k hk hkw, pending k' hk' (hw ▸ hkw)]
  · rwa [← hw, bne_iff_ne.mpr hkw, Bool.and_true, Bool.and_true] at hp

/-- Each update of an event or a beat keeps the entries unique. -/
theorem entriesUnique_keeps : BeatStoreKeeps State.entriesUnique where
  notify _ _ _ _ _ h := h
  update _ _ _ _ h := h
  allocate _ _ _ _ _ hn h := h.allocate hn
  merge s w r _ h := h.congr (s.merge_keys w r)
  ports _ _ hst h := by
    obtain ⟨-, hp, -⟩ := hst
    exact h.congr (by rw [hp])
  issue s _ _ h := h.congr (s.issuePicked_keys _)
  free _ _ h := h.sublist List.filter_sublist
  requeue s w l _ h := h.congr (s.requeue_keys w l)
  timedOut _ _ h := h
  discard _ _ _ h := h
  close _ _ _ _ h := h
  turnOff _ _ _ h := h
  drop _ _ h := h
  fault _ _ h := h
  countDown _ _ _ h := h
  idle _ _ _ h := h
  commit _ _ b _ hc h := h.commitFrame b hc
  slip _ _ _ h := h
  lateDiscard _ _ _ h := h
  lateCarry _ _ _ h := h

/-- Settles O10: an allocation meets no PENDING entry of its line, and a commit no COMMITTED entry of its window; every other update frees
entries or leaves what they are (`entriesUnique_keeps`). -/
theorem entriesStayUnique : Obligations.EntriesStayUnique := by
  intro s t hs hst
  rcases step_happens hst with ⟨rest, -, rfl⟩ | hh
  · exact List.Pairwise.nil
  rcases hh.cases with hb | ⟨w, d, -, rfl⟩ | ⟨w, -, -, -, rfl⟩ | keeps
  · exact entriesUnique_keeps.beats hb hs
  · exact hs
  · exact hs
  · rcases keeps _ entriesUnique_keeps.toStoreKeeps hs with ht | ⟨u, -, -, rfl⟩
    · exact ht
    · exact List.Pairwise.nil

end Sys2Proof.Machine
end

section
/-! The reserves through every step (R29), and the entries in all (R21). -/

namespace Sys2Proof.Machine

variable {s : State}

/-! ### What the total outstanding reserve is made of (R27) -/

theorem State.totalReserve_eq (s : State) : s.totalReserve = ∑ w, s.outstandingReserve w := (Fin.sum_univ_def _).symm

theorem State.outstandingReserve_off {w : WindowId} (h : (s.window w).state = .off) : s.outstandingReserve w = 0 := by
  simp [State.outstandingReserve, h]

theorem State.outstandingReserve_open {w : WindowId} (h : (s.window w).state ≠ .off) :
    s.outstandingReserve w = (s.window w).desc.reserve.toNat - s.inUse w := by
  simp [State.outstandingReserve, h]

/-- A window that gives up `n` entries, or opens with a reserve of `n`, raises its outstanding reserve by `n` at most (R27). -/
theorem State.outstandingReserve_le {t : State} {w : WindowId} {n : Nat} (hw : t.window w = s.window w) (hn : s.inUse w ≤ t.inUse w + n) :
    t.outstandingReserve w ≤ s.outstandingReserve w + n := by
  unfold State.outstandingReserve
  rw [hw]
  split <;> omega

/-- Each entry of a list is of one window. -/
theorem sum_countP_window (p : Entry → Bool) (l : List Entry) :
    ∑ w, l.countP (fun e => p e && e.window == w) = l.countP p := by
  induction l with
  | nil => simp
  | cons e l ih =>
    have one : (∑ w : WindowId, if (p e && e.window == w) = true then 1 else 0) = if p e = true then 1 else 0 := by
      cases p e <;> simp
    simp only [List.countP_cons, Finset.sum_add_distrib, ih, one]

/-! ### Updates that keep the reserves -/

theorem State.reserveKept_iff : s.reserveKept ↔ s.pool.length + ∑ w, s.outstandingReserve w ≤ 512 := by
  unfold State.reserveKept State.freeCount Config.poolSize
  rw [State.totalReserve_eq]
  omega

/-- A state with as many entries and no greater outstanding reserve of any window. -/
theorem State.reserveKept.mono {t : State} (h : s.reserveKept) (hp : t.pool.length = s.pool.length)
    (hr : ∀ w, t.outstandingReserve w ≤ s.outstandingReserve w) : t.reserveKept := by
  rw [State.reserveKept_iff] at h ⊢
  have := Finset.sum_le_sum fun w (_ : w ∈ Finset.univ) => hr w
  omega

/-- A change of entries that keeps their windows (R27). -/
theorem State.reserveKept.congr {t : State} (h : s.reserveKept) (hk : t.pool.map Entry.key = s.pool.map Entry.key)
    (hw : t.windows = s.windows) : t.reserveKept := by
  refine h.mono ?_ fun w => State.outstandingReserve_le (n := 0) (State.window_congr hw w) (Nat.le_of_eq (State.inUse_congr hk w).symm)
  simpa using congrArg List.length hk

/-- A window whose record changes into OFF, or keeps its descriptor and was not OFF, outstands no more reserve (R27). -/
theorem State.reserveKept.update (h : s.reserveKept) {u : WindowId} {f : Window → Window}
    (hf : (f (s.window u)).state = .off ∨ (s.window u).state ≠ .off ∧ (f (s.window u)).desc = (s.window u).desc) :
    (s.updWindow u f).reserveKept := by
  refine h.mono rfl fun w => ?_
  by_cases e : w = u
  · subst e
    have hw : (s.updWindow w f).window w = f (s.window w) := State.updWindow_self s w f
    rcases hf with hoff | ⟨hno, hd⟩
    · rw [State.outstandingReserve_off (by rw [hw]; exact hoff)]
      exact Nat.zero_le _
    · rw [State.outstandingReserve_open hno]
      unfold State.outstandingReserve
      rw [hw, hd]
      split
      · exact Nat.zero_le _
      · exact Nat.le_refl _
  · exact State.outstandingReserve_le (n := 0) (State.updWindow_other s f e) (Nat.le_refl _)

/-- A change of a window's record that keeps its descriptor, and OFF where it was OFF. -/
theorem State.reserveKept.updateKeeping (h : s.reserveKept) {u : WindowId} {f : Window → Window}
    (hf : (s.window u).state = .off → (f (s.window u)).state = .off) (hd : (f (s.window u)).desc = (s.window u).desc) :
    (s.updWindow u f).reserveKept :=
  h.update ((Decidable.em _).imp hf fun hno => ⟨hno, hd⟩)

/-- A free gives the free count as many entries as it can add to the outstanding reserves (R39). -/
theorem State.reserveKept.freeEntries (h : s.reserveKept) (p : Entry → Bool) : (s.freeEntries p).reserveKept := by
  have freed : ∀ w, (s.freeEntries p).outstandingReserve w ≤
      s.outstandingReserve w + s.pool.countP fun e => p e && e.window == w := fun w =>
    State.outstandingReserve_le (by simp) (Nat.le_of_eq (s.freeEntries_inUse p w).symm)
  have total := Finset.sum_le_sum fun w (_ : w ∈ Finset.univ) => freed w
  rw [Finset.sum_add_distrib, sum_countP_window] at total
  have left : (s.freeEntries p).pool.length + s.pool.countP p = s.pool.length := by
    rw [State.freeEntries_pool, ← List.countP_eq_length_filter, List.length_eq_countP_add_countP p, Nat.add_comm]
    simp
  rw [State.reserveKept_iff] at h ⊢
  omega

/-- An allocation takes an entry of the window's own reserve, or one that no reserve needs (R28). -/
theorem State.reserveKept.allocate (h : s.reserveKept) {w : WindowId} (l : Line) (ha : (s.window w).state = .active)
    (hok : s.allocOk w = true) : (s.allocate w l).reserveKept := by
  have hlen : (s.allocate w l).pool.length = s.pool.length + 1 := by simp [State.allocate]
  simp only [State.allocOk, Bool.and_eq_true, Bool.or_eq_true, decide_eq_true_eq] at hok
  obtain ⟨-, hroom⟩ := hok
  rcases hroom with hroom | hroom
  · have given : ∀ u, (s.allocate w l).outstandingReserve u + (if u = w then 1 else 0) = s.outstandingReserve u := by
      intro u
      by_cases e : u = w
      · subst e
        have hno : (s.window u).state ≠ .off := by simp [ha]
        rw [State.outstandingReserve_open hno, State.outstandingReserve_open (by simpa using hno), State.allocate_window,
          State.inUse_allocate, if_pos rfl]
        omega
      · unfold State.outstandingReserve
        rw [State.allocate_window, State.inUse_allocate, if_neg e]
        rfl
    have total : ∑ u, (s.allocate w l).outstandingReserve u + 1 = ∑ u, s.outstandingReserve u := by
      rw [← Finset.sum_congr rfl fun u _ => given u, Finset.sum_add_distrib]
      simp
    rw [State.reserveKept_iff] at h ⊢
    omega
  · have fewer : ∀ u, (s.allocate w l).outstandingReserve u ≤ s.outstandingReserve u := fun u =>
      State.outstandingReserve_le (n := 0) (s.allocate_window w l u) (by rw [State.inUse_allocate]; omega)
    have total := Finset.sum_le_sum fun u (_ : u ∈ Finset.univ) => fewer u
    rw [State.totalReserve_eq, State.freeCount, Config.poolSize] at hroom
    rw [State.reserveKept_iff] at h ⊢
    omega

/-- An OPEN that succeeds has found room for the window's reserve (R13, check 7). -/
theorem State.openResult_room {w : WindowId} (h : s.openResult w = .done) : s.roomFor w = true := by
  unfold State.openResult at h
  dsimp only at h
  split_ifs at h with _ _ _ _ _ _ hroom
  simpa using hroom

/-- With that room, OPEN makes the window's reserve outstanding (R13, R14). -/
theorem State.reserveKept.opened (h : s.reserveKept) {w : WindowId} (hroom : s.roomFor w = true) :
    (s.updWindow w Window.opened).reserveKept := by
  have added : ∀ u, (s.updWindow w Window.opened).outstandingReserve u ≤
      s.outstandingReserve u + if u = w then (s.window w).desc.reserve.toNat else 0 := by
    intro u
    by_cases e : u = w
    · subst e
      have hopen : (s.updWindow u Window.opened).window u = (s.window u).opened := State.updWindow_self s u _
      rw [State.outstandingReserve_open (by rw [hopen]; simp [Window.opened]), hopen, if_pos rfl]
      show (s.window u).desc.reserve.toNat - _ ≤ _
      omega
    · rw [if_neg e]
      exact State.outstandingReserve_le (State.updWindow_other s _ e) (Nat.le_refl _)
  have total := Finset.sum_le_sum fun u (_ : u ∈ Finset.univ) => added u
  have hpool : (s.updWindow w Window.opened).pool = s.pool := rfl
  simp only [Finset.sum_add_distrib, Finset.sum_ite_eq', Finset.mem_univ, if_true] at total
  rw [State.roomFor, decide_eq_true_eq, State.totalReserve_eq, State.freeCount, Config.poolSize] at hroom
  rw [State.reserveKept_iff] at h ⊢
  rw [hpool]
  omega

/-- With no entry owned and every window OFF, nothing is outstanding (R19, R168). -/
theorem State.reserveKept_of_empty (hp : s.pool = []) (ho : ∀ w, (s.window w).state = .off) : s.reserveKept := by
  rw [State.reserveKept_iff, hp, Finset.sum_eq_zero fun w _ => State.outstandingReserve_off (ho w)]
  decide

/-! ### Every step -/

/-- Each update of an event or a beat keeps the reserves. -/
theorem reserveKept_keeps : BeatStoreKeeps State.reserveKept where
  notify _ _ _ _ _ h := h
  update s w f hf h := h.updateKeeping (by simp [hf.active]) (by rw [hf.fields])
  allocate _ _ l ha hok _ h := h.allocate l ha hok
  merge s w r _ h := h.congr (s.merge_keys w r) rfl
  ports _ _ hst h := by
    obtain ⟨hw, hp, -⟩ := hst
    exact h.congr (by rw [hp]) hw
  issue s _ _ h := h.congr (s.issuePicked_keys _) rfl
  free _ p h := h.freeEntries p
  requeue s w l _ h := h.congr (s.requeue_keys w l) rfl
  timedOut _ _ h := h.updateKeeping id rfl
  discard _ _ _ h := h.updateKeeping id rfl
  close _ _ _ hno h := h.update (.inr ⟨hno, rfl⟩)
  turnOff _ _ _ h := h.update (.inl rfl)
  drop _ _ h := h.updateKeeping id rfl
  fault _ _ h := h.updateKeeping Window.Move.fault.stays_off Window.Move.fault.desc
  countDown _ _ ha h :=
    h.updateKeeping (fun hoff => (Window.BeatMove.countDown ha).state.trans hoff) (Window.BeatMove.countDown ha).desc
  idle _ _ _ h := h.updateKeeping id rfl
  commit s w b _ _ h := by
    have h' : (s.updWindow w (Window.committedAt b)).reserveKept := h.updateKeeping id rfl
    refine h'.mono ?_ fun u => ?_
    · obtain ⟨-, -, hpool, -⟩ := s.commitFrame_keys w b w
      rw [hpool, List.length_map]
      rfl
    · obtain ⟨huse, -⟩ := s.commitFrame_keys w b u
      exact State.outstandingReserve_le (n := 0) (s.commitFrame_window w u b) (Nat.le_of_eq huse.symm)
  slip _ _ _ h := h.updateKeeping id rfl
  lateDiscard _ _ _ h := h.updateKeeping id rfl
  lateCarry _ _ _ h := h.updateKeeping id rfl

/-- FREE, PENDING and COMMITTED entries are the pool (R21). -/
theorem State.entries_total (h : s.pool.length ≤ 512) :
    s.freeCount + s.pool.countP (·.isPending) + s.pool.countP (!·.isPending) = 512 := by
  have owned : s.pool.length = s.pool.countP (·.isPending) + s.pool.countP (!·.isPending) := by
    simpa using List.length_eq_countP_add_countP (·.isPending) (l := s.pool)
  unfold State.freeCount Config.poolSize
  omega

theorem step_reserveKept {t : State} (hs : s.reserveKept) (hst : step s = .next t) : t.reserveKept := by
  rcases step_happens hst with ⟨rest, -, rfl⟩ | hh
  · exact State.reserveKept_of_empty rfl fun w => congrArg Window.state (State.reset_window w)
  rcases hh.cases with hb | ⟨w, d, hoff, rfl⟩ | ⟨w, -, -, hdone, rfl⟩ | keeps
  · exact reserveKept_keeps.beats hb hs
  · exact State.reserveKept.update (s := { s with pending := s.pending.tail }) hs (.inl hoff)
  · exact reserveKept_keeps.ports _ _ (complete_keepsStore .openW _)
      (State.reserveKept.opened (s := { s with pending := s.pending.tail }) hs (State.openResult_room hdone))
  · rcases keeps _ reserveKept_keeps.toStoreKeeps hs with ht | ⟨u, -, -, rfl⟩
    · exact ht
    · exact State.reserveKept_of_empty rfl fun w => congrArg Window.state (u.endInit_window w)

/-- Settles O12: an allocation takes an entry that its window's reserve or no reserve needs, OPEN makes sure of its window's reserve, a free
gives what it can make outstanding, and every other update leaves the counts (`reserveKept_keeps`). -/
theorem reservesAreKept : Obligations.ReservesAreKept := by
  intro s t hs hst
  have ht := step_reserveKept hs hst
  exact ⟨ht, State.entries_total ht.1⟩

end Sys2Proof.Machine
end

section
/-! What a consumer's READ is given does not depend on the PENDING entries of the window (R34, R35, R55). -/

namespace Sys2Proof.Machine

variable {s : State} {w : WindowId} {r : Request}

/-- A classification whose state lacks the PENDING entries of window `w`. -/
def Steered.withoutPending (x : Steered) (w : WindowId) : Steered := { x with state := x.state.withoutPending w }

/-! ### What is seen of the pool -/

/-- The COMMITTED entries are found as before. -/
@[simp] theorem State.withoutPending_committedEntry (s : State) (w u : WindowId) (l : Line) :
    (s.withoutPending w).committedEntry u l = s.committedEntry u l := by
  unfold State.committedEntry State.withoutPending
  rw [List.find?_filter]
  congr 1
  funext e
  rw [Bool.eq_iff_iff, decide_eq_true_eq, and_iff_right_iff_imp, Entry.isCommittedOf_iff]
  rintro ⟨-, -, hp⟩
  simp [hp]

theorem State.withoutPending_viewByte {i : Initiator} (hi : (s.window w).isProducer i = false) (l : Line) (p : Nat) :
    (s.withoutPending w).viewByte w i l p = s.viewByte w i l p := by
  cases ht : (s.window w).isTally l p
  · rw [State.viewByte_consumer ht hi, State.viewByte_consumer (s := s.withoutPending w) ht hi, State.committedByte,
      State.withoutPending_committedEntry]
    rfl
  · rw [State.viewByte_tally ht, State.viewByte_tally (s := s.withoutPending w) ht]
    rfl

/-- A consumer captures the same bytes (R34, R35). -/
theorem State.withoutPending_capture (hi : (s.window w).isProducer r.initiator = false) :
    (s.withoutPending w).capture w r = s.capture w r :=
  List.map_congr_left fun _ _ => State.withoutPending_viewByte hi _ _

/-! ### The take -/

theorem steerRead_withoutPending (x : Bool) (hi : (s.window w).isProducer r.initiator = false) :
    steerRead (s.withoutPending w) w r x = (steerRead s w r x).withoutPending w := by
  unfold steerRead
  rw [State.withoutPending_capture hi]
  split <;> rfl

/-- A READ in a window at its take: malformed, held behind an older one of its initiator, or given its view (R49, R51, R55). -/
theorem State.judgeNew_read (hk : r.kind = .read) (hw : s.windowOf r.line = some w) :
    s.judgeNew r =
      if r.malformed then
        ⟨s.notify .badRequest (.initiator r.initiator) none (some r.initiator), .answer .error none, false, none⟩
      else if s.olderHeld r.initiator s.nextOrder then ⟨s, .hold .order (s.takeWindow r), false, none⟩
      else steerRead s w r false := by
  unfold State.judgeNew classify
  rw [hw]
  dsimp only
  rw [steerInWindow_read false hk]

/-- A consumer's READ is classified the same (R49, R55). -/
theorem State.judgeNew_withoutPending (hk : r.kind = .read) (hw : s.windowOf r.line = some w)
    (hi : (s.window w).isProducer r.initiator = false) : (s.withoutPending w).judgeNew r = (s.judgeNew r).withoutPending w := by
  rw [State.judgeNew_read hk hw, State.judgeNew_read (s := s.withoutPending w) hk hw, steerRead_withoutPending false hi]
  by_cases hm : r.malformed = true
  · rw [if_pos hm, if_pos hm]
    rfl
  · rw [if_neg hm, if_neg hm]
    have older : (s.withoutPending w).olderHeld r.initiator (s.withoutPending w).nextOrder = s.olderHeld r.initiator s.nextOrder := rfl
    rw [older]
    split <;> rfl

/-- A READ wakes no held request (R55). -/
theorem State.judgeNew_read_woke (hk : r.kind = .read) (hw : s.windowOf r.line = some w) : (s.judgeNew r).woke = none := by
  rw [State.judgeNew_read hk hw]
  unfold steerRead
  split_ifs <;> rfl

theorem State.enter_withoutPending (s : State) (w : WindowId) (r : Request) (x : Steered) :
    (s.withoutPending w).enter r (x.withoutPending w) = (s.enter r x).withoutPending w := by
  obtain ⟨t, v, m, k⟩ := x
  cases v <;> rfl

/-- The drain engine issues the same entries, all of them COMMITTED (R110). -/
theorem State.issuePicked_withoutPending (s : State) (w : WindowId) (x : List DrainRef × List DrainRef) :
    (s.withoutPending w).issuePicked x = (s.issuePicked x).withoutPending w := by
  have same : ∀ e : Entry, (if x.1.any fun d => e.isCommittedOf d.window d.line then e.withStatus .issued else e).window = e.window ∧
      (if x.1.any fun d => e.isCommittedOf d.window d.line then e.withStatus .issued else e).isPending = e.isPending := fun e => by
    split <;> simp
  unfold State.issuePicked
  simp only [State.withoutPending_committedEntry]
  simp only [State.withoutPending, List.filter_map, Function.comp_def, same]

theorem State.drainIssue_withoutPending (s : State) (w : WindowId) :
    (s.withoutPending w).drainIssue = s.drainIssue.withoutPending w := by
  unfold State.drainIssue
  rw [State.issuePicked_withoutPending]
  split
  · next h => rw [if_pos (show s.port.busy = true from h)]
  · next h => rw [if_neg (show ¬ s.port.busy = true from h)]; rfl

/-- A take that wakes no held request closes with the two issue rules alone (R109, R110). -/
theorem State.takeRequest_wakesNone (h : (s.judgeNew r).woke = none) :
    s.takeRequest r =
      if (s.judgeNew r).verdict.sends then (s.enter r (s.judgeNew r)).issueHost.drainIssue else s.enter r (s.judgeNew r) := by
  have wakes : ∀ t, (s.judgeNew r).wakes t = [] := fun t => by
    unfold Steered.wakes
    rw [h]
  unfold State.takeRequest
  dsimp only
  rw [wakes, State.closeEvent_nothing]
  rfl

/-- The take of a consumer's READ does not depend on the PENDING entries, and leaves them (R55). -/
theorem State.takeRequest_withoutPending (hk : r.kind = .read) (hw : s.windowOf r.line = some w)
    (hi : (s.window w).isProducer r.initiator = false) : (s.withoutPending w).takeRequest r = (s.takeRequest r).withoutPending w := by
  have judged := State.judgeNew_withoutPending hk hw hi
  rw [State.takeRequest_wakesNone (State.judgeNew_read_woke hk hw), State.takeRequest_wakesNone (by
    rw [judged]
    exact State.judgeNew_read_woke hk hw), judged, State.enter_withoutPending]
  show (if (s.judgeNew r).verdict.sends then ((s.enter r (s.judgeNew r)).issueHost.withoutPending w).drainIssue else _) = _
  rw [State.drainIssue_withoutPending]
  split <;> rfl

/-- Settles O22: a consumer's capture shows no PENDING byte, so the READ is classified, entered and issued the same
(`State.takeRequest_withoutPending`). -/
theorem consumersSeeNoPendingByte : Obligations.ConsumersSeeNoPendingByte := by
  intro s r w hk hw hi htake
  have htake' : (s.withoutPending w).takesNext := htake
  refine ⟨_, _, exec_hostSideRequest htake, exec_hostSideRequest htake', ?_⟩
  rw [State.takeRequest_withoutPending hk hw hi]
  exact ⟨rfl, rfl, rfl, rfl⟩

end Sys2Proof.Machine
end

section
/-! Memory's answer to a host-origin request (R37, R66, R113), and the end of INIT as part of it (R166 to R168). -/

namespace Sys2Proof.Machine

variable {s : State}

/-! ### The answer of the request that is served (R66) -/

/-- The bytes of a viewed read, one by one: the captured byte where there is one, else memory's (R37). -/
theorem combine_eq_zipWith {cap : List (Option Byte)} {data : List Byte} (h : cap.length = data.length) :
    combine cap data = cap.zipWith (fun c m => c.getD m) data := by
  refine List.ext_getElem (by simp [combine, h]) fun i hi _ => ?_
  have hcap : i < cap.length := by simpa [combine] using hi
  have hdata : i < data.length := h ▸ hcap
  simp only [combine, List.getElem_mapIdx, List.getElem_zipWith, List.getD_eq_getElem?_getD, List.getElem?_eq_getElem hdata]
  cases cap[i] <;> rfl

/-- Where nothing was captured the data are memory's (R37). -/
theorem combine_uncaptured (data : List Byte) : combine (List.replicate data.length none) data = data := by
  rw [combine_eq_zipWith List.length_replicate]
  refine List.ext_getElem (by simp) fun i _ _ => ?_
  simp

/-- The table of R66 for full answers. -/
theorem answerFrom_eq {d : HostDown} {cap : Option (List (Option Byte))} {a : MemAnswer} {form : AnswerForm}
    (h : (a = .error ∧ form = .error) ∨
      ∃ data, a = .okay data ∧
        ((∃ lanes, d.request.kind = .write lanes ∧ form = .okay []) ∨
         (∃ op x, d.request.kind = .atomic op x ∧ form = .okay data) ∨
         (d.request.kind = .read ∧ cap = none ∧ data.length = d.request.size ∧ form = .okay data) ∨
         (∃ c, d.request.kind = .read ∧ cap = some c ∧ c.length = data.length ∧
            form = .okay (c.zipWith (fun c m => c.getD m) data)))) : answerFrom d cap a = form := by
  rcases h with ⟨rfl, rfl⟩ | ⟨data, rfl, h⟩
  · rfl
  unfold answerFrom
  rcases h with ⟨lanes, hk, rfl⟩ | ⟨op, x, hk, rfl⟩ | ⟨hk, rfl, hsize, rfl⟩ | ⟨c, hk, rfl, hlen, rfl⟩ <;> simp only [hk]
  · rw [Option.getD_none, ← hsize, combine_uncaptured]
  · rw [Option.getD_some, combine_eq_zipWith hlen]

/-! ### The completion (R113) -/

/-- Memory's answer leaves each capture, but that ERROR discards that of the request it answers (R37, R66). -/
theorem State.keepCapture_eq (s : State) (n : Nat) (a : MemAnswer) :
    s.keepCapture n a =
      { s with inflight := s.inflight.map fun e => if a = .error ∧ e.order = n then { e with capture := none } else e } := by
  cases a with
  | okay data => simp [State.keepCapture]
  | error => simp [State.keepCapture, State.setCapture]

/-- The state in which the answer `form` of the request at place `n` is determined and the waiting requests are issued, its entry having
left the outstanding table `rest` (R66, R109). -/
def State.hostAnswered (s : State) (n : Nat) (a : MemAnswer) (i : Initiator) (form : AnswerForm) (rest : List Outstanding) : State :=
  (({ s with
      outstanding := rest
      inflight := s.inflight.map fun e => if a = .error ∧ e.order = n then { e with capture := none } else e } : State).determine
    n i form).issueHost

@[simp] theorem State.hostAnswered_port (s : State) (n : Nat) (a : MemAnswer) (i : Initiator) (form : AnswerForm)
    (rest : List Outstanding) : (s.hostAnswered n a i form rest).port = s.port := by simp [State.hostAnswered]

/-- An answer that matches an entry of the outstanding table (R112, R113). -/
theorem State.hostCompletion_found {n : Nat} {d : HostDown} {pre post : List Outstanding}
    (ho : s.outstanding = pre ++ .host d :: post) (hpre : ∀ o ∈ pre, o.serves n = false) (hn : d.order = n) (a : MemAnswer) :
    s.hostCompletion n a =
      (s.hostAnswered n a d.request.initiator (answerFrom d ((s.inflightAt n).bind (·.capture)) a)
        (pre ++ post)).drainIssue.testInitEnd := by
  have hself : (Outstanding.host d).serves n = true := by simp [Outstanding.serves, hn]
  have hfind : s.outstanding.find? (·.serves n) = some (.host d) := by
    rw [ho, List.find?_append, List.find?_eq_none.mpr fun o h => by simp [hpre o h]]
    simp [hself]
  have herase : s.outstanding.eraseP (·.serves n) = pre ++ post := by
    rw [ho, List.eraseP_append_right _ fun o h => by simp [hpre o h]]
    simp [hself]
  unfold State.hostCompletion
  rw [hfind, herase]
  dsimp only
  rw [State.keepCapture_eq]
  rfl

/-- While INIT is in progress the drain engine issues nothing (R121). -/
theorem State.drainIssue_busy_eq (h : s.port.busy = true) : s.drainIssue = s := if_pos h

/-- Settles O34: the answer by the table (`answerFrom_eq`), and the end test of INIT at the state that the completion makes
(`State.hostCompletion_found`). -/
theorem hostOriginCompletions : Obligations.HostOriginCompletions := by
  intro s n a d pre post form ho hpre hn hform u hu
  have answered : u = s.hostAnswered n a d.request.initiator form (pre ++ post) := hu
  have hport : u.port = s.port := answered ▸ State.hostAnswered_port _ _ _ _ _ _
  have completes : exec (.hostOriginCompletion n a) s = .next u.drainIssue.testInitEnd := by
    rw [answered, ← answerFrom_eq hform]
    exact congrArg Host.Outcome.next (State.hostCompletion_found ho hpre hn a)
  rw [completes]
  refine ⟨fun hb => ?_, fun hb hleft => ?_, fun hb hi hout => ?_⟩
  · rw [State.testInitEnd_notBusy (by simp [hport, hb])]
  · rw [State.drainIssue_busy_eq (hport ▸ hb)]
    exact congrArg Host.Outcome.next (if_neg fun hd => hleft (State.initDone_iff.mp hd).2)
  · rw [State.drainIssue_busy_eq (hport ▸ hb)]
    exact ⟨u.endInit, congrArg Host.Outcome.next (if_pos (State.initDone_iff.mpr ⟨hport ▸ hb, hi, hout⟩)), u.endInit_isEndOf⟩

end Sys2Proof.Machine
end

section
/-! What a request in flight keeps (R46, R47), and what its READ has captured (R35, R37, R66), through every step. -/

namespace Sys2Proof.Machine

variable {s t : State}

/-! ### Entries kept -/

/-- The later entry `f` of a request that was in flight as `e`: the same request, take time and window, and the same entry in all if the
request was not HELD (R47). -/
def InFlight.keptAs (e f : InFlight) : Prop :=
  f.request = e.request ∧ f.takeTime = e.takeTime ∧ f.window = e.window ∧ (e.status ≠ .held → f = e)

/-- From `s` to `t` the requests in flight keep their entries, and of them only those that were HELD are held. -/
structure State.KeepsEntries (s t : State) : Prop where
  held : ∀ g ∈ t.holdQueue, ∀ e ∈ s.inflight, e.order = g.order → e.status = .held
  kept : ∀ e ∈ s.inflight, ∀ f ∈ t.inflight, f.order = e.order → e.keptAs f

theorem State.portsAgree.eq_of_order (h : s.portsAgree) {e f : InFlight} (he : e ∈ s.inflight) (hf : f ∈ s.inflight)
    (ho : f.order = e.order) : f = e :=
  List.inj_on_of_nodup_map (h.1.imp fun h => Nat.ne_of_lt h) hf he ho

theorem State.KeepsEntries.start (h : s.portsAgree) : s.KeepsEntries s where
  held g hg _ he ho := (h.held_iff he).mpr ⟨g, hg, ho.symm⟩
  kept _ he _ hf ho := by
    obtain rfl := h.eq_of_order he hf ho
    exact ⟨rfl, rfl, rfl, fun _ => rfl⟩

/-- Requests may leave both lists. -/
theorem State.KeepsEntries.mono {u : State} (h : s.KeepsEntries t) (hi : u.inflight ⊆ t.inflight)
    (hq : u.holdQueue.map (·.order) ⊆ t.holdQueue.map (·.order)) : s.KeepsEntries u where
  held g hg e he ho := by
    obtain ⟨k, hk, hko⟩ := List.mem_map.mp (hq (List.mem_map_of_mem hg))
    exact h.held k hk e he (ho.trans hko.symm)
  kept e he f hf := h.kept e he f (hi hf)

/-- An update that touches neither list. -/
theorem State.KeepsEntries.congr {u : State} (h : s.KeepsEntries t) (hi : u.inflight = t.inflight) (hq : u.holdQueue = t.holdQueue) :
    s.KeepsEntries u :=
  h.mono (by rw [hi]; exact List.Subset.refl _) (by rw [hq]; exact List.Subset.refl _)

/-- A change of the status or the capture of the entry at a place whose request was HELD, or was not in flight. -/
theorem State.KeepsEntries.changeAt {n : Nat} {c : InFlight → InFlight} (h : s.KeepsEntries t)
    (hn : ∀ e ∈ s.inflight, e.order = n → e.status = .held)
    (hc : ∀ f, (c f).order = f.order ∧ (c f).request = f.request ∧ (c f).takeTime = f.takeTime ∧ (c f).window = f.window)
    (hother : ∀ f, f.order ≠ n → c f = f) : s.KeepsEntries { t with inflight := t.inflight.map c } where
  held := h.held
  kept e he f hf ho := by
    obtain ⟨k, hk, rfl⟩ := List.mem_map.mp hf
    obtain ⟨hco, hcr, hct, hcw⟩ := hc k
    obtain ⟨hr, ht, hw, hsame⟩ := h.kept e he k hk (hco.symm.trans ho)
    refine ⟨hcr.trans hr, hct.trans ht, hcw.trans hw, fun hs => ?_⟩
    rw [hother k fun hkn => hs (hn e he (by omega)), hsame hs]

theorem State.KeepsEntries.setStatus {n : Nat} (h : s.KeepsEntries t) (hn : ∀ e ∈ s.inflight, e.order = n → e.status = .held)
    (st : Status) : s.KeepsEntries (t.setStatus n st) :=
  h.changeAt hn (fun f => by split <;> exact ⟨rfl, rfl, rfl, rfl⟩) fun _ hf => if_neg hf

theorem State.KeepsEntries.setCapture {n : Nat} (h : s.KeepsEntries t) (hn : ∀ e ∈ s.inflight, e.order = n → e.status = .held)
    (cap : Option (List (Option Byte))) : s.KeepsEntries (t.setCapture n cap) :=
  h.changeAt hn (fun f => by split <;> exact ⟨rfl, rfl, rfl, rfl⟩) fun _ hf => if_neg hf

theorem State.KeepsEntries.depart (h : s.KeepsEntries t) (i : Initiator) : s.KeepsEntries (t.depart i) :=
  h.mono (departures_sublist i t.inflight).subset (List.Subset.refl _)

theorem State.KeepsEntries.determine {n : Nat} (h : s.KeepsEntries t) (hn : ∀ e ∈ s.inflight, e.order = n → e.status = .held)
    (i : Initiator) (a : AnswerForm) : s.KeepsEntries (t.determine n i a) :=
  (h.setStatus hn _).depart i

theorem State.KeepsEntries.unhold (h : s.KeepsEntries t) (n : Nat) : s.KeepsEntries (t.unhold n) :=
  h.mono (List.Subset.refl _) (List.filter_sublist.map _).subset

/-! ### Events -/

/-- A re-examination changes the entries of held requests alone (R73, R76). -/
theorem State.KeepsEntries.passKeeps (s : State) : PassKeeps s.KeepsEntries where
  notify _ _ _ _ _ h := h.congr rfl rfl
  update _ _ _ _ h := h.congr rfl rfl
  allocate _ _ _ _ _ _ h := h.congr rfl rfl
  merge _ _ _ _ h := h.congr rfl rfl
  rehold t g reason w met _ h := by
    have same : (t.rehold g.order reason w met).holdQueue.map (·.order) = t.holdQueue.map (·.order) := by
      rw [State.rehold_holdQueue, List.map_map]
      exact List.map_congr_left fun k _ => k.reheld_order _ _ _ _
    exact h.mono (List.Subset.refl _) (by rw [same]; exact List.Subset.refl _)
  answer _ g a cap hg h := ((h.unhold _).setCapture (h.held g hg) cap).determine (h.held g hg) _ a
  send _ g _ _ cap hg _ _ h := (((h.unhold _).setCapture (h.held g hg) cap).setStatus (h.held g hg) .downstream).congr rfl rfl

theorem State.KeepsEntries.drainIssue (h : s.KeepsEntries t) : s.KeepsEntries t.drainIssue :=
  h.congr t.drainIssue_inflight t.drainIssue_holdQueue

theorem State.KeepsEntries.closeEvent (h : s.KeepsEntries t) (d snt : Bool) (trig : List Nat) :
    s.KeepsEntries (t.closeEvent d snt trig) :=
  State.closeEvent_keeps (fun u g hg _ => u.reclassify_keeps (State.KeepsEntries.passKeeps s) g hg) (fun _ h => h.congr rfl rfl)
    (fun _ h => h.drainIssue) t d snt trig h

theorem State.KeepsEntries.testOff (h : s.KeepsEntries t) (w : WindowId) : s.KeepsEntries (t.testOff w) := by
  obtain ⟨-, hq, hi, -⟩ := t.testOff_rest w
  exact h.congr hi hq

theorem State.testInitEnd_requests (s : State) :
    s.testInitEnd.inflight = s.inflight ∧ s.testInitEnd.holdQueue = s.holdQueue := by
  unfold State.testInitEnd
  split <;> exact ⟨rfl, rfl⟩

theorem State.KeepsEntries.testInitEnd (h : s.KeepsEntries t) : s.KeepsEntries t.testInitEnd :=
  h.congr t.testInitEnd_requests.1 t.testInitEnd_requests.2

/-- A delivered beat changes entries at the close of its event alone (R88). -/
theorem State.KeepsEntries.beatKeeps (s : State) (b : BitVec 32) : BeatKeeps s.KeepsEntries b where
  countDown _ _ _ h := h.congr rfl rfl
  idle _ _ _ _ h := h.congr rfl rfl
  commit _ _ _ _ h := by
    unfold State.commitFrame
    dsimp only
    split <;> exact h.congr rfl rfl
  slip _ _ _ _ h := by
    unfold State.slip
    split
    · exact h
    · exact h.congr rfl rfl
  lateDiscard _ _ _ h := h.congr rfl rfl
  lateCarry _ _ _ _ h := by
    unfold State.lateCarry
    split
    · exact h
    · exact h.congr rfl rfl
  close _ d trig h := h.closeEvent d false trig

theorem State.KeepsEntries.offer (h : s.KeepsEntries t) (c : Source) : s.KeepsEntries (t.offer c).2 := by
  have beat : ∀ u : State, s.KeepsEntries u → s.KeepsEntries u.evalBeat := fun u hu =>
    u.evalBeat_keeps (State.KeepsEntries.beatKeeps s _) hu
  rcases t.offer_cases c with ⟨e, -⟩ | ⟨e, -⟩ | ⟨-, -, -, e⟩ | ⟨-, -, -, -, e⟩ <;> rw [e]
  · exact h
  · exact h
  · exact beat _ (h.congr rfl rfl)
  · exact beat _ (h.congr rfl rfl)

theorem State.sameStore.keepsEntries {u : State} (hst : t.sameStore u) (h : s.KeepsEntries t) : s.KeepsEntries u := by
  obtain ⟨-, -, hi, -, hq, -⟩ := State.sameStore_iff.mp hst
  exact h.congr hi hq

theorem State.Beats.keepsEntries (hp : s.portsAgree) (h : s.Beats t) : s.KeepsEntries t := by
  induction h with
  | refl => exact .start hp
  | beside _ hst _ ih => exact hst.keepsEntries ih
  | offer c _ ih => exact ih.offer c

/-- The classification of a request at its take touches neither list (R49). -/
theorem State.judgeNew_frame (s : State) (r : Request) : s.sameButStore (s.judgeNew r).state := by
  unfold State.judgeNew
  split
  · rfl
  · exact classify_frame s _ _ _ _

/-- The entry of a request taken now is at a new place (R46). -/
theorem State.KeepsEntries.takeRequest (h : s.KeepsEntries t) (hn : ∀ e ∈ s.inflight, e.order ≠ t.nextOrder) (r : Request) :
    s.KeepsEntries (t.takeRequest r) := by
  have joins : ∀ {u : State} (new : InFlight), s.KeepsEntries u → new.order = t.nextOrder →
      s.KeepsEntries { u with inflight := u.inflight ++ [new] } := fun new hu hnew =>
    ⟨hu.held, fun e he f hf ho => by
      rcases List.mem_append.mp hf with hf | hf
      · exact hu.kept e he f hf ho
      · obtain rfl := List.mem_singleton.mp hf
        exact absurd (ho.symm.trans hnew) (hn e he)⟩
  have judged : s.KeepsEntries { (t.judgeNew r).state with nextOrder := t.nextOrder + 1 } := by
    have hf := t.judgeNew_frame r
    unfold State.sameButStore at hf
    rw [hf]
    exact h.congr rfl rfl
  refine State.KeepsEntries.closeEvent ?_ _ _ _
  unfold State.enter
  dsimp only
  split
  · next reason w _ =>
    have entered := joins (t.newEntry r .held none) judged rfl
    refine ⟨fun g hg e he ho => ?_, entered.kept⟩
    rcases List.mem_append.mp hg with hg | hg
    · exact judged.held g hg e he ho
    · obtain rfl := List.mem_singleton.mp hg
      exact absurd ho (hn e he)
  · next a cap _ => exact (joins (t.newEntry r (.ready a) cap) judged rfl).depart _
  · next p d cap _ => exact (joins (t.newEntry r .downstream cap) judged rfl).congr rfl rfl

/-- A timeout answers a request that was held (R80). -/
theorem State.KeepsEntries.timeout (h : s.KeepsEntries t) {g : Held} (hg : g ∈ t.holdQueue) : s.KeepsEntries (t.timeout g) := by
  have answered : s.KeepsEntries ((t.unhold g.order).determine g.order g.request.initiator .error) :=
    (h.unhold _).determine (h.held g hg) _ _
  refine State.KeepsEntries.closeEvent (answered.congr ?_ ?_) _ _ _
  · cases g.window <;> rfl
  · cases g.window <;> rfl

theorem State.KeepsEntries.closeTo (h : s.KeepsEntries t) (w : WindowId) (m : CloseMode) : s.KeepsEntries (t.closeTo w m) := by
  rw [State.closeTo_eq]
  refine State.KeepsEntries.closeEvent (State.KeepsEntries.testOff (h.congr ?_ ?_) w) _ _ _
  · cases m <;> rfl
  · cases m <;> rfl

theorem State.KeepsEntries.drained (h : s.KeepsEntries t) (w : WindowId) (l : Line) : s.KeepsEntries (t.drained w l) := by
  rw [State.drained_eq]
  refine State.KeepsEntries.closeEvent (State.KeepsEntries.testOff ?_ w) _ _ _
  exact h.congr rfl rfl

theorem State.KeepsEntries.dropEntry (h : s.KeepsEntries t) (w : WindowId) (l : Line) : s.KeepsEntries (t.dropEntry w l) := by
  rw [State.dropEntry_eq]
  refine State.KeepsEntries.closeEvent ?_ _ _ _
  exact h.congr rfl rfl

theorem State.KeepsEntries.complete {x : ResultCode × State} (h : s.KeepsEntries x.2) (c : CommandName) :
    s.KeepsEntries (complete c x) := h.congr rfl rfl

/-- No drain write's answer is an answer of a request in flight (R114 to R116). -/
theorem State.KeepsEntries.drainCompletion (h : s.KeepsEntries t) (l : Line) (a : DrainAnswer) :
    s.KeepsEntries (t.drainCompletion l a) := by
  have erased : s.KeepsEntries { t with outstanding := t.outstanding.eraseP (·.drains l) } := h.congr rfl rfl
  unfold State.drainCompletion
  split
  · dsimp only
    split
    · exact erased.testInitEnd
    · split
      · exact erased.drainIssue
      · exact erased.drained _ _
      · split
        · exact erased.dropEntry _ _
        · unfold State.firstError
          dsimp only
          split
          · exact erased.congr (by simp) (by simp)
          · exact State.KeepsEntries.drainIssue (erased.congr rfl rfl)
  · exact h

/-- INIT answers the held requests alone (R83). -/
theorem State.portsAgree.keepsEntries_answerHeld (hp : s.portsAgree) : s.KeepsEntries s.answerHeld where
  held g hg := by
    rw [State.answerHeld_fields] at hg
    cases hg
  kept e he f hf ho := by
    obtain ⟨k, hk, rfl⟩ := (State.answerHeld_errorsGiven hp).sublist f hf
    obtain rfl := hp.eq_of_order he hk ((k.answeredError_order _).symm.trans ho)
    refine ⟨k.answeredError_request _, ?_, ?_, hp.answeredError_eq he⟩ <;> unfold InFlight.answeredError <;> split <;> rfl

/-- Every happening but memory's answer to a host-origin request keeps the entries of the requests in flight. -/
theorem State.Happens.keepsEntries (h : s.Happens t) (hp : s.portsAgree) :
    s.KeepsEntries t ∨ ∃ n a, t = s.hostCompletion n a := by
  have start := State.KeepsEntries.start hp
  cases h with
  | aside hst => exact .inl (hst.keepsEntries start)
  | beats hb => exact .inl (hb.keepsEntries hp)
  | descriptor w d _ => exact .inl (start.congr rfl rfl)
  | opened w _ _ _ => exact .inl (start.congr rfl rfl)
  | closed w m _ _ => exact .inl (State.KeepsEntries.complete (start.closeTo w m) .closeW)
  | @taken u r hst _ =>
    obtain ⟨-, -, -, hn, -⟩ := State.sameStore_iff.mp hst
    obtain ⟨-, younger, -⟩ := hp
    exact .inl ((hst.keepsEntries start).takeRequest (fun e he => by rw [hn]; exact Nat.ne_of_lt (younger e he)) r)
  | timeout g hg => exact .inl (start.timeout hg)
  | hostAnswer n a => exact .inr ⟨n, a, rfl⟩
  | drainAnswer l a => exact .inl (start.drainCompletion l a)
  | init _ =>
    have taken : s.initTaken.KeepsEntries s.initTaken.answerHeld := State.portsAgree.keepsEntries_answerHeld (s := s.initTaken) hp
    have kept : s.KeepsEntries s.initTaken.answerHeld := ⟨taken.held, taken.kept⟩
    exact .inl kept.testInitEnd
  | initEnd => exact .inl start.testInitEnd

/-! ### Memory's answers -/

/-- The in-flight entry `e` once memory's answer `a` has determined the answer `form` of the request at place `n` (R37, R66). -/
def InFlight.answeredBy (n : Nat) (a : MemAnswer) (form : AnswerForm) (e : InFlight) : InFlight :=
  if e.order = n then { e with status := .ready form, capture := if a = .error then none else e.capture } else e

theorem InFlight.answeredBy_order (n : Nat) (a : MemAnswer) (form : AnswerForm) (e : InFlight) :
    (e.answeredBy n a form).order = e.order := by
  unfold InFlight.answeredBy
  split <;> rfl

theorem State.hostAnswered_inflight {n : Nat} {a : MemAnswer} {i : Initiator} {form : AnswerForm} {rest : List Outstanding}
    {f : InFlight} (hf : f ∈ (s.hostAnswered n a i form rest).inflight) : ∃ e ∈ s.inflight, f = e.answeredBy n a form := by
  have hf := (departures_sublist i _).subset hf
  rw [State.setStatus_inflight, List.map_map] at hf
  obtain ⟨e, he, rfl⟩ := List.mem_map.mp hf
  refine ⟨e, he, ?_⟩
  unfold InFlight.answeredBy
  by_cases ho : e.order = n <;> by_cases ha : a = .error <;> simp [ho, ha]

/-- The answer is ERROR exactly where memory's is (R66). -/
theorem answerFrom_error_iff {d : HostDown} {cap : Option (List (Option Byte))} {a : MemAnswer} :
    answerFrom d cap a = .error ↔ a = .error := by
  unfold answerFrom
  cases a with
  | error => simp
  | okay data => cases d.request.kind <;> simp

/-- A host-origin request serves a DOWNSTREAM request (R47, R108). -/
theorem State.portsAgree.served (h : s.portsAgree) {d : HostDown} (hd : Outstanding.host d ∈ s.outstanding) {e : InFlight}
    (he : e ∈ s.inflight) (ho : e.order = d.order) : e.status = .downstream := by
  obtain ⟨-, -, -, -, hperm⟩ := id h
  have hmem : d ∈ s.downstream := List.mem_append_right _ (List.mem_filterMap.mpr ⟨_, hd, rfl⟩)
  obtain ⟨f, hf, hfd⟩ := List.mem_map.mp (hperm.subset (List.mem_map_of_mem hmem))
  obtain ⟨hf, hdown⟩ := List.mem_filter.mp hf
  obtain rfl := h.eq_of_order he hf ((congrArg Prod.fst hfd).trans ho.symm)
  simpa [InFlight.isDown] using hdown

/-- What memory's answer does to the entries: nothing, or it determines the answer of one DOWNSTREAM request, ERROR exactly if memory's
answer is, which then discards its capture (R37, R66). -/
theorem State.hostCompletion_inflight (hp : s.portsAgree) (n : Nat) (a : MemAnswer) :
    s.hostCompletion n a = s ∨
      ∃ form, (form = .error ↔ a = .error) ∧ (∀ e ∈ s.inflight, e.order = n → e.status = .downstream) ∧
        ∀ f ∈ (s.hostCompletion n a).inflight, ∃ e ∈ s.inflight, f = e.answeredBy n a form := by
  cases hfind : s.outstanding.find? (·.serves n) with
  | none => exact .inl (by unfold State.hostCompletion; rw [hfind])
  | some o =>
    obtain ⟨hserves, pre, post, ho, hpre⟩ := List.find?_eq_some_iff_append.mp hfind
    cases o with
    | drain r => cases hserves
    | host d =>
      have hn : d.order = n := by simpa [Outstanding.serves] using hserves
      have found := State.hostCompletion_found ho (by simpa using hpre) hn a
      refine .inr ⟨_, answerFrom_error_iff (d := d) (cap := (s.inflightAt n).bind (·.capture)), fun e he heo => ?_, fun f hf => ?_⟩
      · exact hp.served (by rw [ho]; simp) he (heo.trans hn.symm)
      · rw [found] at hf
        refine State.hostAnswered_inflight (i := d.request.initiator) (rest := pre ++ post) ?_
        rwa [(State.testInitEnd_requests _).1, State.drainIssue_inflight] at hf

/-- Settles O23: every other happening keeps the entries of requests that are not HELD (`State.Happens.keepsEntries`), and memory's answer
is to one DOWNSTREAM request (`State.hostCompletion_inflight`). -/
theorem capturesAreFixed : Obligations.CapturesAreFixed := by
  intro s t hp hst e he f hf ho
  have of_kept : e.keptAs f → f.request = e.request ∧ f.takeTime = e.takeTime ∧ f.window = e.window ∧
      (e.status ≠ .held → f.capture = if e.status = .downstream ∧ f.status = .ready .error then none else e.capture) := by
    rintro ⟨hr, ht, hw, hsame⟩
    refine ⟨hr, ht, hw, fun hs => ?_⟩
    rw [hsame hs, if_neg]
    rintro ⟨hdown, hready⟩
    rw [hdown] at hready
    cases hready
  rcases step_happens hst with ⟨rest, -, rfl⟩ | hh
  · cases hf
  have hp' : ({ s with pending := s.pending.tail } : State).portsAgree := hp
  rcases hh.keepsEntries hp' with kept | ⟨n, a, rfl⟩
  · exact of_kept (kept.kept e he f hf ho)
  rcases State.hostCompletion_inflight hp' n a with same | ⟨form, herror, hdown, hentries⟩
  · rw [same] at hf
    exact of_kept ((State.KeepsEntries.start hp').kept e he f hf ho)
  obtain ⟨k, hk, rfl⟩ := hentries f hf
  obtain rfl := hp.eq_of_order he hk ((k.answeredBy_order n a form).symm.trans ho)
  by_cases hn : k.order = n
  · rw [InFlight.answeredBy, if_pos hn]
    refine ⟨rfl, rfl, rfl, fun _ => ?_⟩
    simp [hdown k he hn, herror]
  · have same : k.answeredBy n a form = k := if_neg hn
    exact of_kept (by rw [same]; exact ⟨rfl, rfl, rfl, fun _ => rfl⟩)

end Sys2Proof.Machine
end

section
/-! SUPPORT. A principle for the laws of the two ports: what every update of the in-flight list, the hold queue, the wait list and the
outstanding table keeps, every step but a hardware reset keeps. -/

namespace Sys2Proof.Machine

/-- `s` with everything at its reset value but the parts of the two ports that hold requests, and the answers sent. -/
def State.ports (s : State) : State :=
  { State.reset with
    inflight := s.inflight, nextOrder := s.nextOrder, holdQueue := s.holdQueue, waitList := s.waitList
    outstanding := s.outstanding, answers := s.answers }

/-- `s` with the entry `e` of a request taken now, the youngest of the in-flight list (R46, R47). -/
def State.joined (s : State) (e : InFlight) : State :=
  { s with inflight := s.inflight ++ [e], nextOrder := s.nextOrder + 1 }

/-- A property of the ports that each of their updates keeps. -/
structure PortKeeps (P : State → Prop) : Prop where
  ports : ∀ s : State, P s.ports ↔ P s
  rehold : ∀ s h reason w met, h ∈ s.holdQueue → P s → P (s.rehold h.order reason w met)
  capture : ∀ s n cap, P s → P (s.setCapture n cap)
  answer : ∀ s h a, h ∈ s.holdQueue → P s → P ((s.unhold h.order).determine h.order h.request.initiator a)
  send : ∀ s h p r, h ∈ s.holdQueue → r.initiator = h.request.initiator → P s →
    P (((s.unhold h.order).setStatus h.order .downstream).handOver ⟨h.order, p, r⟩)
  issueHost : ∀ s, P s → P s.issueHost
  issue : ∀ s waits, P s → P (s.issuePicked (pickDrains waits s.drainRoom s.drainQueue))
  drainDone : ∀ s l, P s → P { s with outstanding := s.outstanding.eraseP (·.drains l) }
  served : ∀ s n d a, s.outstanding.find? (·.serves n) = some (.host d) → P s →
    P (({ s with outstanding := s.outstanding.eraseP (·.serves n) } : State).determine n d.request.initiator a)
  answerHeld : ∀ s, P s → P s.answerHeld
  joinHeld : ∀ s e h, s.canTake = true → e.order = s.nextOrder → e.status = .held → h.order = e.order → h.request = e.request →
    P s → P { s.joined e with holdQueue := s.holdQueue ++ [h] }
  joinReady : ∀ s e a, s.canTake = true → e.order = s.nextOrder → e.status = .ready a → P s →
    P ((s.joined e).depart e.request.initiator)
  joinDown : ∀ s e p r, s.canTake = true → e.order = s.nextOrder → e.status = .downstream →
    r.initiator = e.request.initiator → P s → P ((s.joined e).handOver ⟨e.order, p, r⟩)

/-! ### What does not touch the ports -/

section Untouched

variable {s : State}

theorem State.sameButStore.ports {t : State} (h : s.sameButStore t) : t.ports = s.ports := by
  rw [h]
  rfl

theorem State.sameStore.ports {t : State} (h : s.sameStore t) : t.ports = s.ports := by
  rw [h]
  rfl

theorem State.ports_ite {c : Prop} [Decidable c] {t u : State} (ht : t.ports = s.ports) (hu : u.ports = s.ports) :
    (if c then t else u).ports = s.ports := by
  split
  · exact ht
  · exact hu

theorem State.setTracker_ports (s : State) (t : BeatLine) (v : Tracker) : (s.setTracker t v).ports = s.ports := by
  cases t <;> rfl

theorem State.testOff_ports (s : State) (w : WindowId) : (s.testOff w).ports = s.ports := State.ports_ite rfl rfl

theorem State.testInitEnd_ports (s : State) : s.testInitEnd.ports = s.ports := State.ports_ite rfl rfl

theorem State.closeMarked_ports (s : State) (w : WindowId) (m : CloseMode) : (s.closeMarked w m).ports = s.ports := by
  cases m <;> rfl

theorem State.countTimeout_ports (s : State) (w : Option WindowId) : (s.countTimeout w).ports = s.ports := by
  cases w <;> rfl

theorem State.openWindow_ports (s : State) (w : WindowId) : (s.openWindow w).2.ports = s.ports := State.ports_ite rfl rfl

theorem State.selectSource_ports (s : State) (c : Source) : (s.selectSource c).2.ports = s.ports := by
  unfold State.selectSource
  split
  · rfl
  · split
    · split <;> rfl
    · rfl

/-- What the scheduler does to a window at a beat, before the close of the beat's event (R86 to R99). -/
theorem State.commitFrame_ports (s : State) (w : WindowId) (b : BitVec 32) : (s.commitFrame w b).ports = s.ports :=
  State.ports_ite rfl rfl

theorem State.slip_ports (s : State) (w : WindowId) : (s.slip w).ports = s.ports := State.ports_ite rfl rfl

theorem State.lateCarry_ports (s : State) (w : WindowId) : (s.lateCarry w).ports = s.ports := State.ports_ite rfl rfl

theorem State.writeDescriptor_ports (s : State) (w : WindowId) (i : Fin 6) (v : Word) :
    (s.writeDescriptor w i v).ports = s.ports := by
  unfold State.writeDescriptor
  split
  · split <;> rfl
  · rfl

theorem State.enableTracker_ports (s : State) (t : BeatLine) : (s.enableTracker t).ports = s.ports :=
  State.ports_ite (s.setTracker_ports t _) rfl

theorem State.disableTracker_ports (s : State) (t : BeatLine) : (s.disableTracker t).ports = s.ports :=
  State.ports_ite rfl (State.ports_ite rfl (s.setTracker_ports t _))

/-- Of the registers only the command register reaches the ports (R156, R162). -/
theorem State.writeReg_ports (s : State) {g : Reg} (hg : g ≠ .command) (v : Word) : (s.writeReg g v).ports = s.ports := by
  cases g with
  | command => exact absurd rfl hg
  | descriptor w i => exact s.writeDescriptor_ports w i v
  | flags => exact State.ports_ite (State.ports_ite (s := s) rfl rfl) (State.ports_ite rfl rfl)
  | holdLimit => exact State.ports_ite rfl rfl
  | minimumGap => exact State.ports_ite rfl rfl
  | internalPeriod => exact State.ports_ite rfl rfl
  | failoverEnable => exact State.ports_ite rfl rfl
  | trackerConfig t => exact State.ports_ite rfl (State.ports_ite (s.setTracker_ports t _) rfl)
  | trackerEnable t => exact State.ports_ite (s.enableTracker_ports t) (s.disableTracker_ports t)
  | _ => rfl

/-- A request is entered in the ports as its verdict gives, whatever its classification made of the store (R47). -/
theorem State.enter_ports {t : State} (h : s.sameButStore t) (r : Request) (v : Verdict) (met : Bool) (woke : Option WindowId) :
    (s.enter r ⟨t, v, met, woke⟩).ports = (s.enter r ⟨s, v, met, woke⟩).ports := by
  unfold State.sameButStore at h
  rw [h]
  cases v <;> rfl

end Untouched

/-- INIT determines the answers of the held requests one after another, with the hold queue empty (R83). -/
theorem State.answerHeld_keeps {P : State → Prop} {s : State} (k : ∀ t n i, P t → P (t.determine n i .error))
    (hs : P { s with holdQueue := [] }) : P s.answerHeld := by
  have run : ∀ (q : List Held) (t : State), P t → P (q.foldl (fun t h => t.determine h.order h.request.initiator .error) t) := by
    intro q
    induction q with
    | nil => exact fun _ ht => ht
    | cons g q ih => exact fun _ ht => ih _ (k _ _ _ ht)
  exact run s.holdQueue _ hs

/-! ### Events -/

section Events

variable {P : State → Prop} (k : PortKeeps P) {s : State}
include k

theorem PortKeeps.same {t : State} (hs : P s) (h : t.ports = s.ports) : P t :=
  (k.ports t).mp (h ▸ (k.ports s).mpr hs)

/-- A classification touches none of the lists, so a re-examination keeps what holds and releases keep (R73, R76). -/
theorem PortKeeps.passKeeps : PassKeeps P where
  notify _ _ _ _ _ h := k.same h rfl
  update _ _ _ _ h := k.same h rfl
  allocate _ _ _ _ _ _ h := k.same h rfl
  merge _ _ _ _ h := k.same h rfl
  rehold := k.rehold
  answer s h a c hm hs := k.answer (s.setCapture h.order c) h a hm (k.capture s _ c hs)
  send s h p r c hm hi _ hs := k.send (s.setCapture h.order c) h p r hm hi (k.capture s _ c hs)

theorem PortKeeps.drainIssue (hs : P s) : P s.drainIssue := by
  unfold State.drainIssue
  split
  · exact hs
  · exact k.issue s _ hs

theorem PortKeeps.drainIssueBut (w : WindowId) (hs : P s) : P (s.drainIssueBut w) := by
  unfold State.drainIssueBut
  split
  · exact hs
  · exact k.issue s _ hs

theorem PortKeeps.closeEvent (d snt : Bool) (trig : List Nat) (hs : P s) : P (s.closeEvent d snt trig) :=
  State.closeEvent_keeps (fun s h hm _ => s.reclassify_keeps k.passKeeps h hm) k.issueHost (fun _ => k.drainIssue) s d snt trig hs

/-- The request taken joins the list with the status that its verdict gives (R47, R71). -/
theorem PortKeeps.enter {r : Request} {x : Steered} (hc : s.canTake = true) (hf : s.sameButStore x.state)
    (hv : x.verdict.sendsOf r) (hs : P s) : P (s.enter r x) := by
  obtain ⟨t, v, met, woke⟩ := x
  refine k.same ?_ (State.enter_ports hf r v met woke)
  cases v with
  | hold reason w => exact k.joinHeld s (s.newEntry r .held none) (s.newHeld r reason w met) hc rfl rfl rfl rfl hs
  | answer a cap => exact k.joinReady s (s.newEntry r (.ready a) cap) a hc rfl rfl hs
  | send p d cap => exact k.joinDown s (s.newEntry r .downstream cap) p d hc rfl rfl hv.1 hs

theorem PortKeeps.takeRequest {r : Request} (hc : s.canTake = true) (hs : P s) : P (s.takeRequest r) := by
  refine k.closeEvent _ _ _ (k.enter hc (s.judgeNew_frame r) ?_ hs)
  unfold State.judgeNew
  split
  · trivial
  · exact classify_sendsOf s _ _ _ _

theorem PortKeeps.takePresented (hs : P s) : P s.takePresented := by
  unfold State.takePresented
  split
  · next hc =>
    split
    · next rest _ => exact k.takeRequest (s := { s with hostBus := rest }) hc (k.same hs rfl)
    · exact hs
  · exact hs

theorem PortKeeps.timeout {h : Held} (hm : h ∈ s.holdQueue) (hs : P s) : P (s.timeout h) :=
  k.closeEvent _ _ _ (k.same (k.answer s h .error hm hs) (State.countTimeout_ports _ h.window))

theorem PortKeeps.closeTo (w : WindowId) (m : CloseMode) (hs : P s) : P (s.closeTo w m) := by
  rw [State.closeTo_eq]
  exact k.closeEvent _ _ _ (k.same hs ((State.testOff_ports _ w).trans (s.closeMarked_ports w m)))

theorem PortKeeps.testInitEnd (hs : P s) : P s.testInitEnd := k.same hs s.testInitEnd_ports

theorem PortKeeps.drained (w : WindowId) (l : Line) (hs : P s) : P (s.drained w l) := by
  rw [State.drained_eq]
  exact k.closeEvent _ _ _ (k.same hs (State.testOff_ports (s.entryFreed w l) w))

theorem PortKeeps.dropEntry (w : WindowId) (l : Line) (hs : P s) : P (s.dropEntry w l) := by
  rw [State.dropEntry_eq]
  exact k.closeEvent _ _ _ (k.same hs rfl)

/-- Memory's answer to a drain write (R114 to R117, R121). -/
theorem PortKeeps.drainCompletion (l : Line) (a : DrainAnswer) (hs : P s) : P (s.drainCompletion l a) := by
  have erased := k.drainDone s l hs
  unfold State.drainCompletion
  split
  · dsimp only
    split
    · exact k.testInitEnd erased
    · split
      · exact k.drainIssue erased
      · exact k.drained _ l erased
      · split
        · exact k.dropEntry _ l erased
        · unfold State.firstError
          dsimp only
          split
          · exact k.drainIssueBut _ (k.same erased rfl)
          · exact k.drainIssue (k.same erased rfl)
  · exact hs

/-- Memory's answer to a host-origin request (R66, R113). -/
theorem PortKeeps.hostCompletion (n : Nat) (a : MemAnswer) (hs : P s) : P (s.hostCompletion n a) := by
  unfold State.hostCompletion
  split
  · next d hfind =>
    refine k.testInitEnd (k.drainIssue (k.issueHost _ ?_))
    cases a with
    | okay data => exact k.served s n d _ hfind hs
    | error => exact k.served (s.setCapture n none) n d _ hfind (k.capture s n none hs)
  · exact hs

theorem PortKeeps.beatKeeps (b : BitVec 32) : BeatKeeps P b where
  countDown _ _ _ h := k.same h rfl
  idle _ _ _ _ h := k.same h rfl
  commit s w _ _ h := k.same h (s.commitFrame_ports w b)
  slip s w _ _ h := k.same h (s.slip_ports w)
  lateDiscard _ _ _ h := k.same h rfl
  lateCarry s w _ _ h := k.same h (s.lateCarry_ports w)
  close _ d trig := k.closeEvent d false trig

theorem PortKeeps.offer (c : Source) (hs : P s) : P (s.offer c).2 := by
  have beat : ∀ u : State, P u → P u.evalBeat := fun u hu => u.evalBeat_keeps (k.beatKeeps _) hu
  rcases s.offer_cases c with ⟨e, -⟩ | ⟨e, -⟩ | ⟨-, -, -, e⟩ | ⟨-, -, -, -, e⟩ <;> rw [e]
  · exact hs
  · exact hs
  · exact beat _ (k.same hs rfl)
  · exact beat _ (k.same hs rfl)

/-- The trackers, the generator and BEAT_NOW reach the ports by delivered beats alone (R86). -/
theorem PortKeeps.beats {t : State} (h : s.Beats t) (hs : P s) : P t := by
  induction h with
  | refl => exact hs
  | beside _ hst _ ih => exact k.same ih hst.ports
  | offer c _ ih => exact k.offer c ih

/-! ### Commands -/

theorem PortKeeps.closeWindow (w : WindowId) (m : CloseMode) (hs : P s) : P (s.closeWindow w m).2 := by
  unfold State.closeWindow
  split
  case h_4 =>
    dsimp only
    split
    · exact hs
    · exact k.closeTo w _ hs
  case h_2 => exact k.closeTo w _ hs
  case h_6 => exact k.closeTo w _ hs
  all_goals exact hs

theorem PortKeeps.command (c : CommandName) (hs : P s) : P (s.command c) := by
  unfold State.command
  split
  · exact k.same hs rfl
  · cases c with
    | openW => exact k.same hs (s.openWindow_ports _)
    | closeW => exact k.same (k.closeWindow s.port.argument.window s.port.argument.mode hs) rfl
    | selectSource => exact k.same hs (s.selectSource_ports _)
    | beatNow => exact k.beats State.Beats.refl.beatNow hs
    | init => exact k.testInitEnd (k.answerHeld _ (k.same hs rfl))

theorem PortKeeps.commandWrite (code : BitVec 8) (hs : P s) : P (s.commandWrite code) := by
  unfold State.commandWrite
  split
  · exact k.command _ hs
  · exact k.same hs (State.ports_ite rfl rfl)

theorem PortKeeps.writeReg (g : Reg) (v : Word) (hs : P s) : P (s.writeReg g v) := by
  by_cases hg : g = .command
  · subst hg
    exact k.commandWrite _ hs
  · exact k.same hs (s.writeReg_ports hg v)

/-- What every command but a hardware reset does to the ports. -/
theorem PortKeeps.of_exec {c : Instr} (hc : c ≠ .hardwareReset) {t : State} (h : exec c s = .next t) (hs : P s) : P t := by
  cases c <;> obtain rfl := Host.Outcome.next.inj h
  case hardwareReset => exact absurd rfl hc
  case hostSideRequest r => exact k.takePresented (k.same hs rfl)
  case hostOriginCompletion n a => exact k.hostCompletion n a hs
  case drainCompletion l a => exact k.drainCompletion l a hs
  case holdTimeout n =>
    split
    · next hh => exact k.timeout (List.mem_of_find?_eq_some hh) hs
    · exact hs
  case beatEdge t => exact k.beats ((State.Beats.refl.takeOverdue t 8).edge t) hs
  case trackerMiss t =>
    split
    · exact k.beats (State.Beats.refl.miss t) hs
    · exact hs
  case internalCandidate =>
    split
    · exact k.beats State.Beats.refl.internalTick hs
    · exact hs
  case initEnd => exact k.testInitEnd hs
  case undefinedCommand code => exact k.commandWrite code hs
  case descriptorWrite w i d => exact k.same hs (s.writeDescriptor_ports w i _)
  case holdLimitWrite d => exact k.writeReg .holdLimit _ hs
  case minimumGapWrite d => exact k.writeReg .minimumGap _ hs
  case internalPeriodWrite d => exact k.writeReg .internalPeriod _ hs
  case failoverEnableWrite d => exact k.writeReg .failoverEnable _ hs
  case trackerConfigurationWrite t d => exact k.writeReg (.trackerConfig t) _ hs
  case trackerEnableSet t => exact k.same hs (s.enableTracker_ports t)
  case trackerEnableClear t => exact k.same hs (s.disableTracker_ports t)
  case registerWrite o d =>
    unfold State.busWrite
    split
    · exact k.writeReg _ _ hs
    · exact hs
  case openWindow => exact k.command .openW hs
  case closeWindow => exact k.command .closeW hs
  case selectSource => exact k.command .selectSource hs
  case beatNow => exact k.command .beatNow hs
  case initCommand => exact k.command .init hs
  all_goals exact k.same hs rfl

/-- What a step on an empty queue does to the ports (R1). -/
theorem PortKeeps.of_idle (hs : P s) : P s.idle := by
  unfold State.idle
  split
  · exact k.beats (State.Beats.refl.miss .a) hs
  · split
    · exact k.beats (State.Beats.refl.miss .b) hs
    · split
      · next hh => exact k.timeout (List.mem_of_find?_eq_some hh) hs
      · split
        · exact k.beats State.Beats.refl.internalTick hs
        · split
          · exact k.takePresented hs
          · exact k.same hs rfl

/-- Every step but a hardware reset keeps what the updates of the ports keep; a hardware reset gives the reset state. -/
theorem PortKeeps.of_step {t : State} (hs : P s) (h : step s = .next t) :
    P t ∨ (∃ rest, s.pending = .hardwareReset :: rest) ∧ t.ports = State.reset.ports := by
  rcases hp : s.pending with _ | ⟨c, rest⟩
  · rw [step_idle hp] at h
    exact .inl (Host.Outcome.next.inj h ▸ k.of_idle hs)
  · rw [step_front hp] at h
    by_cases hc : c = .hardwareReset
    · subst hc
      exact .inr ⟨⟨rest, rfl⟩, Host.Outcome.next.inj h ▸ rfl⟩
    · exact .inl (k.of_exec hc h (k.same hs rfl))

/-- A law of the ports that the reset state meets is a law of every step. -/
theorem PortKeeps.law {t : State} (hr : P State.reset) (hs : P s) (h : step s = .next t) : P t := by
  rcases k.of_step hs h with ht | ⟨-, ht⟩
  · exact ht
  · exact k.same hr ht

end Events

end Sys2Proof.Machine
end

section
/-! The answers of each initiator in take order (R48), through every step. -/

namespace Sys2Proof.Machine

/-! ### Properties of the in-flight list and the answers alone -/

/-- `s` with everything at its reset value but the in-flight list, the answers sent and the places given. -/
def State.entries (s : State) : State :=
  { State.reset with inflight := s.inflight, nextOrder := s.nextOrder, answers := s.answers }

/-- A property of the in-flight list and the answers sent that holds whatever the other lists hold, and that a change of an entry's status
or capture, a departure, and the entry of a request taken now keep. -/
structure EntryKeeps (P : State → Prop) : Prop where
  entries : ∀ s : State, P s.entries ↔ P s
  change : ∀ s (c : InFlight → InFlight), (∀ e, (c e).request = e.request ∧ (c e).order = e.order) → P s →
    P { s with inflight := s.inflight.map c }
  depart : ∀ s i, P s → P (s.depart i)
  joined : ∀ s e, e.order = s.nextOrder → P s → P (s.joined e)

section

variable {P : State → Prop} (k : EntryKeeps P) {s : State}
include k

theorem EntryKeeps.same {t : State} (hs : P s) (h : t.entries = s.entries) : P t :=
  (k.entries t).mp (h ▸ (k.entries s).mpr hs)

theorem EntryKeeps.setStatus (n : Nat) (st : Status) (hs : P s) : P (s.setStatus n st) :=
  k.change s _ (fun e => by split <;> exact ⟨rfl, rfl⟩) hs

theorem EntryKeeps.setCapture (n : Nat) (cap : Option (List (Option Byte))) (hs : P s) : P (s.setCapture n cap) :=
  k.change s _ (fun e => by split <;> exact ⟨rfl, rfl⟩) hs

theorem EntryKeeps.determine (n : Nat) (i : Initiator) (a : AnswerForm) (hs : P s) : P (s.determine n i a) :=
  k.depart _ i (k.setStatus n _ hs)

theorem EntryKeeps.answerHeld (hs : P s) : P s.answerHeld :=
  State.answerHeld_keeps (fun _ n i => k.determine n i .error) (k.same hs rfl)

theorem EntryKeeps.portKeeps : PortKeeps P where
  ports _ := ⟨fun h => k.same h rfl, fun h => k.same h rfl⟩
  rehold _ _ _ _ _ _ h := k.same h rfl
  capture _ n cap h := k.setCapture n cap h
  answer _ g a _ h := k.determine g.order g.request.initiator a (k.same h rfl)
  send _ g _ _ _ _ h := k.same (k.setStatus g.order .downstream h) rfl
  issueHost _ h := k.same h rfl
  issue _ _ h := k.same h rfl
  drainDone _ _ h := k.same h rfl
  served _ n d a _ h := k.determine n d.request.initiator a (k.same h rfl)
  answerHeld _ := k.answerHeld
  joinHeld s e _ _ ho _ _ _ h := k.same (k.joined s e ho h) rfl
  joinReady s e _ _ ho _ h := k.depart _ _ (k.joined s e ho h)
  joinDown s e _ _ _ ho _ _ h := k.same (k.joined s e ho h) rfl

end

/-! ### Take order -/

/-- A request taken now is the youngest of its initiator's (R46). -/
theorem State.joined_placesOf (s : State) (e : InFlight) (i : Initiator) :
    (s.joined e).placesOf i = s.placesOf i ++ if e.request.initiator = i then [e.order] else [] := by
  unfold State.placesOf State.joined
  by_cases h : e.request.initiator = i <;> simp [h]

theorem answersInOrder_keeps : EntryKeeps State.answersInOrder where
  entries _ := Iff.rfl
  change s c hc h i := by
    rw [placesOf_map s c hc i]
    exact h i
  depart s i h j := by
    rw [State.depart_placesOf]
    exact h j
  joined s e ho h i := by
    obtain ⟨hsorted, hlast⟩ := h i
    rw [State.joined_placesOf]
    split
    · refine ⟨List.pairwise_append.mpr ⟨hsorted, List.pairwise_singleton _ _, fun n hn m hm => ?_⟩, fun n hn => ?_⟩
      · rw [List.mem_singleton.mp hm, ho]
        exact hlast n hn
      · show n < s.nextOrder + 1
        rcases List.mem_append.mp hn with hn | hn
        · exact Nat.lt_succ_of_lt (hlast n hn)
        · rw [List.mem_singleton.mp hn, ho]
          exact Nat.lt_succ_self _
    · rw [List.append_nil]
      exact ⟨hsorted, fun n hn => Nat.lt_succ_of_lt (hlast n hn)⟩

/-- Settles O7: no update of the ports changes an initiator's places but a take, which puts the new one last (`answersInOrder_keeps`). -/
theorem answersLeaveInTakeOrder : Obligations.AnswersLeaveInTakeOrder := fun _ _ hs hst =>
  answersInOrder_keeps.portKeeps.law (fun _ => ⟨List.Pairwise.nil, fun _ hn => nomatch hn⟩) hs hst

end Sys2Proof.Machine
end

section
/-! The capacities of the lists of the two ports (R47, R71, R108), through every step. -/

namespace Sys2Proof.Machine

variable {s t : State}

/-- Lists that do not grow stay within their capacities. -/
theorem State.withinLimits.mono (h : s.withinLimits) (hi : t.inflight.length ≤ s.inflight.length)
    (hq : t.holdQueue.length ≤ s.holdQueue.length) (hc : t.hostCount ≤ s.hostCount) (hd : t.drainCount ≤ s.drainCount) :
    t.withinLimits := by
  obtain ⟨h1, h2, h3, h4⟩ := h
  exact ⟨hi.trans h1, hq.trans h2, hc.trans h3, hd.trans h4⟩

theorem State.withinLimits.erased (h : s.withinLimits) (p : Outstanding → Bool) :
    ({ s with outstanding := s.outstanding.eraseP p } : State).withinLimits :=
  h.mono le_rfl le_rfl List.eraseP_sublist.countP_le List.eraseP_sublist.countP_le

/-- A departure lets entries go and adds none (R48). -/
theorem State.depart_length (s : State) (i : Initiator) : (s.depart i).inflight.length ≤ s.inflight.length :=
  (departures_sublist i s.inflight).length_le

theorem State.withinLimits.determine (h : s.withinLimits) (n : Nat) (i : Initiator) (a : AnswerForm) :
    (s.determine n i a).withinLimits := by
  refine h.mono (((s.setStatus n _).depart_length i).trans ?_) le_rfl le_rfl le_rfl
  rw [State.setStatus_inflight, List.length_map]

theorem State.withinLimits.unhold (h : s.withinLimits) (n : Nat) : (s.unhold n).withinLimits :=
  h.mono le_rfl (List.length_filter_le _ _) le_rfl le_rfl

/-- The issue of host-origin requests adds no drain write (R108, R109). -/
theorem State.issueHost_drainCount (s : State) : s.issueHost.drainCount = s.drainCount := by
  have hosts : ((s.waitList.take (Config.maxHostOutstanding - s.hostCount)).map Outstanding.host).countP (!·.isHost) = 0 :=
    List.countP_eq_zero.mpr fun o ho => by
      obtain ⟨d, -, rfl⟩ := List.mem_map.mp ho
      simp [Outstanding.isHost]
  unfold State.drainCount State.issueHost
  rw [List.countP_append, hosts, Nat.add_zero]

/-- The issue of drain writes adds no host-origin request (R108, R110). -/
theorem State.issuePicked_hostCount (s : State) (x : List DrainRef × List DrainRef) : (s.issuePicked x).hostCount = s.hostCount := by
  rw [State.hostCount_eq, State.hostCount_eq]
  simp [State.issuePicked]

theorem State.canTake_iff : s.canTake = true ↔
    s.inflight.length < 24 ∧ s.holdQueue.length < 8 ∧ s.hostCount < 12 ∧ s.port.busy = false := by
  simp only [State.canTake, Bool.and_eq_true, decide_eq_true_eq, Bool.not_eq_true', and_assoc]
  rfl

/-- A take adds one entry to a list that has room (R45). -/
theorem State.withinLimits.joined (h : s.withinLimits) (hc : s.canTake = true) (e : InFlight) : (s.joined e).withinLimits := by
  obtain ⟨-, h2, h3, h4⟩ := h
  obtain ⟨hroom, -⟩ := State.canTake_iff.mp hc
  exact ⟨by simpa [State.joined] using hroom, h2, h3, h4⟩

theorem withinLimits_keeps : PortKeeps State.withinLimits where
  ports _ := Iff.rfl
  rehold s g reason w met _ h := h.mono le_rfl (by rw [State.rehold_holdQueue, List.length_map]) le_rfl le_rfl
  capture s n cap h := h.mono (by rw [State.setCapture_inflight, List.length_map]) le_rfl le_rfl le_rfl
  answer s g a _ h := (h.unhold g.order).determine _ _ a
  send s g p r _ _ h :=
    (h.unhold g.order).mono (t := ((s.unhold g.order).setStatus g.order .downstream).handOver ⟨g.order, p, r⟩)
      (by rw [State.handOver_inflight, State.setStatus_inflight, List.length_map]) le_rfl le_rfl le_rfl
  issueHost s h := by
    obtain ⟨h1, h2, h3, h4⟩ := h
    exact ⟨h1, h2, (s.issueHost_hostCount h3).1, s.issueHost_drainCount.le.trans h4⟩
  issue s waits h := by
    obtain ⟨h1, h2, h3, h4⟩ := h
    exact ⟨h1, h2, (s.issuePicked_hostCount _).le.trans h3, s.issuePicked_drainCount _ h4 (pickDrains_spec _ _ _).1⟩
  drainDone s l h := h.erased _
  served s n d a _ h := (h.erased _).determine n _ a
  answerHeld s h :=
    State.answerHeld_keeps (fun _ n i ht => ht.determine n i .error) (h.mono le_rfl (Nat.zero_le _) le_rfl le_rfl)
  joinHeld s e g hc _ _ _ _ h := by
    obtain ⟨h1, -, h3, h4⟩ := h.joined hc e
    obtain ⟨-, hroom, -⟩ := State.canTake_iff.mp hc
    exact ⟨h1, by simpa using hroom, h3, h4⟩
  joinReady s e a hc _ _ h := (h.joined hc e).mono (State.depart_length _ _) le_rfl le_rfl le_rfl
  joinDown s e p r hc _ _ _ h := (h.joined hc e).mono le_rfl le_rfl le_rfl le_rfl

/-- Settles O5: the lists grow by a take, whose conditions leave room, and by the two issue rules, which fill free slots alone
(`withinLimits_keeps`). -/
theorem capacitiesAreKept : Obligations.CapacitiesAreKept := fun _ _ hs hst =>
  withinLimits_keeps.law ⟨Nat.zero_le _, Nat.zero_le _, Nat.zero_le _, Nat.zero_le _⟩ hs hst

end Sys2Proof.Machine
end

section
/-! Requests answered ERROR at their take, requests passed through, and requests that wait on the bus (R45, R51, R53 to R57). -/

namespace Sys2Proof.Machine

variable {s : State} {r : Request}

/-- A malformed request is answered ERROR before it is classified (R49, R51). -/
theorem exec_malformed (h : s.takesNext) (hm : r.malformed = true) :
    exec (.hostSideRequest r) s =
      .next (s.finishTake r
        ⟨s.notify .badRequest (.initiator r.initiator) none (some r.initiator), .answer .error none, false, none⟩) := by
  rw [exec_hostSideRequest h, State.takeRequest, State.judgeNew, if_pos hm]
  rfl

/-- A request of no window, with no older one of its initiator held, is passed through (R49, R53). -/
theorem exec_passThrough (h : s.takesNext) (hm : r.malformed = false) (hn : s.noneHeldOf r.initiator)
    (hw : s.windowOf r.line = none) :
    exec (.hostSideRequest r) s = .next (s.finishTake r ⟨s, .send .passThrough r none, false, none⟩) := by
  rw [exec_hostSideRequest h, State.takeRequest, State.judgeNew, if_neg (by simp [hm]), classify, hn.olderHeld, hw]
  rfl

/-- Settles O24: each of the four classifications is an answer of ERROR that wakes no request (`State.finishTake_answer`). -/
theorem requestsAnsweredError : Obligations.RequestsAnsweredError := by
  intro s r htake
  refine ⟨fun hm => ?_, fun w hm hn hw => ⟨fun op data hk => ?_, fun lanes hk hp => ?_, fun lanes hk hp hst => ?_⟩⟩
  · rw [exec_malformed htake hm]
    exact congrArg Host.Outcome.next (State.finishTake_answer rfl rfl (by simp))
  · rw [exec_inWindow htake hm hn hw, steerInWindow_atomic false hk]
    exact congrArg Host.Outcome.next (State.finishTake_answer rfl hw (by simp))
  · rw [exec_inWindow htake hm hn hw, steerInWindow_write false hk, steerWrite_foreign false hp]
    exact congrArg Host.Outcome.next (State.finishTake_answer rfl hw (by simp))
  · rw [exec_inWindow htake hm hn hw, steerInWindow_write false hk, steerWrite_producer false hp, hst]
    exact congrArg Host.Outcome.next (State.finishTake_answer rfl hw (by simp))

/-- Settles O26: a pass-through wakes no request, and is issued at once where the wait list is empty (`State.finishTake_send`). -/
theorem passThroughRequestsGoToMemory : Obligations.PassThroughRequestsGoToMemory := by
  intro s r htake hm hn hw hq
  rw [exec_passThrough htake hm hn hw]
  exact congrArg Host.Outcome.next (State.finishTake_send rfl hw (by simp) hq htake.hostCount)

/-- Settles O25: while a take condition fails the port takes nothing; once they hold it takes the head of the bus, whatever waits behind
it (`State.takeRequest_onBus`). -/
theorem requestsWaitOnTheBus : Obligations.RequestsWaitOnTheBus := by
  intro s r
  refine ⟨fun hfull => ?_, fun x rest hb htake => ?_⟩
  · have refuses : ¬ s.canTake = true := by
      rw [State.canTake_iff]
      rintro ⟨hi, hq, hc, hbusy⟩
      rcases hfull with h | h | h | h
      · omega
      · omega
      · omega
      · exact Bool.false_ne_true (hbusy.symm.trans h)
    exact congrArg Host.Outcome.next (if_neg (c := ({ s with hostBus := s.hostBus ++ [r] } : State).canTake = true) refuses)
  · have hc : s.canTake = true := State.takesNext_iff_canTake.mp htake
    refine ⟨_, exec_hostSideRequest_takes hc, ?_⟩
    have taken : (s.onBus (x :: (rest ++ [r]))).takePresented = ((s.onBus (x :: (rest ++ [r]))).onBus (rest ++ [r])).takeRequest x :=
      State.takePresented_cons hc rfl
    have arrives : exec (.hostSideRequest r) s = .next (s.onBus (x :: (rest ++ [r]))).takePresented := by
      rw [← List.cons_append, ← hb]
      rfl
    rw [arrives, taken]
    exact congrArg Host.Outcome.next (State.takeRequest_onBus s (rest ++ [r]) x)

end Sys2Proof.Machine
end

section
/-! The agreement of the two ports (R47, R70, R71, R108, R109), and that no request taken is lost (R44), through every step. -/

namespace Sys2Proof.Machine

variable {s t : State}

/-! ### The keys of the entries of one status -/

/-- The entries whose status `p` holds of, by place in take order and by what `f` gives of the request. -/
def keysWhere {β : Type} (p : Status → Bool) (f : Request → β) (l : List InFlight) : List (Nat × β) :=
  (l.filter fun e => p e.status).map fun e => (e.order, f e.request)

/-- The agreement of the ports, in the keys of the HELD and of the DOWNSTREAM entries. -/
theorem State.portsAgree_iff :
    s.portsAgree ↔
      (s.inflight.map (·.order)).Pairwise (· < ·) ∧ (∀ e ∈ s.inflight, e.order < s.nextOrder) ∧
        s.holdQueue.map (fun h => (h.order, h.request)) = keysWhere (· == .held) id s.inflight ∧
        (s.waitList.map (·.order)).Pairwise (· < ·) ∧
        (s.downstream.map fun d => (d.order, d.request.initiator)).Perm (keysWhere (· == .downstream) (·.initiator) s.inflight) :=
  Iff.rfl

section Keys

variable {β : Type} (p : Status → Bool) (f : Request → β)

theorem keysWhere_append (l m : List InFlight) : keysWhere p f (l ++ m) = keysWhere p f l ++ keysWhere p f m := by
  simp [keysWhere]

/-- The entries of a list in take order have their places in take order. -/
theorem keysWhere_sorted {l : List InFlight} (h : (l.map (·.order)).Pairwise (· < ·)) :
    ((keysWhere p f l).map Prod.fst).Pairwise (· < ·) := by
  rw [keysWhere, List.map_map]
  exact h.sublist (List.filter_sublist.map _)

/-- Entries that are not READY do not depart (R48). -/
theorem keysWhere_departures (hp : ∀ a, p (.ready a) = false) (i : Initiator) (l : List InFlight) :
    keysWhere p f (departures i l).2 = keysWhere p f l := by
  unfold keysWhere
  rw [departures_filter i l _ fun e _ a he => by rw [he]; exact hp a]

/-- A change that leaves place, request and status leaves the keys. -/
theorem keysWhere_map {c : InFlight → InFlight}
    (hc : ∀ e, (c e).order = e.order ∧ (c e).request = e.request ∧ (c e).status = e.status) (l : List InFlight) :
    keysWhere p f (l.map c) = keysWhere p f l := by
  unfold keysWhere
  rw [List.filter_map, List.map_map]
  simp only [Function.comp_def, hc]

/-- With another status given to the entries at a place, the keys at that place go. -/
theorem keysWhere_setStatus {st : Status} (hp : p st = false) (n : Nat) (l : List InFlight) :
    keysWhere p f (l.map fun e => if e.order = n then { e with status := st } else e) =
      (keysWhere p f l).filter (·.1 != n) := by
  induction l with
  | nil => rfl
  | cons e l ih =>
    unfold keysWhere at ih ⊢
    by_cases hn : e.order = n
    · cases hs : p e.status <;> simp [hn, hp, hs, ih]
    · cases hs : p e.status <;> simp [hn, hs, ih]

end Keys

/-- The entry at a place, with another status, in its place in the list. -/
theorem setStatus_split {l : List InFlight} (h : (l.map (·.order)).Pairwise (· < ·)) {e : InFlight} (he : e ∈ l) :
    ∃ pre post, l = pre ++ e :: post ∧ ∀ st : Status,
      (l.map fun f => if f.order = e.order then { f with status := st } else f) = pre ++ { e with status := st } :: post := by
  obtain ⟨pre, post, rfl⟩ := List.append_of_mem he
  rw [List.map_append, List.map_cons, List.pairwise_append, List.pairwise_cons] at h
  obtain ⟨-, ⟨hpost, -⟩, hpre⟩ := h
  have same : ∀ (m : List InFlight) (st : Status), (∀ f ∈ m, f.order ≠ e.order) →
      (m.map fun f => if f.order = e.order then { f with status := st } else f) = m := fun m st hm =>
    (List.map_congr_left (g := id) fun f hf => if_neg (hm f hf)).trans (List.map_id m)
  refine ⟨pre, post, rfl, fun st => ?_⟩
  rw [List.map_append, List.map_cons, if_pos rfl,
    same pre st fun f hf => Nat.ne_of_lt (hpre _ (List.mem_map_of_mem hf) _ List.mem_cons_self),
    same post st fun f hf => Nat.ne_of_gt (hpost _ (List.mem_map_of_mem hf))]

/-! ### Which places have which keys -/

/-- Places that are not among the keys are left by a filter. -/
theorem filter_other_place {β : Type} {l : List (Nat × β)} {n : Nat} (h : ∀ k ∈ l, k.1 ≠ n) : l.filter (·.1 != n) = l :=
  List.filter_eq_self.mpr fun k hk => by simpa using h k hk

theorem mem_keysWhere {β : Type} {p : Status → Bool} {f : Request → β} {l : List InFlight} {k : Nat × β}
    (h : k ∈ keysWhere p f l) : ∃ e ∈ l, p e.status = true ∧ k = (e.order, f e.request) := by
  obtain ⟨e, he, rfl⟩ := List.mem_map.mp h
  obtain ⟨he, hs⟩ := List.mem_filter.mp he
  exact ⟨e, he, hs, rfl⟩

/-- A request that is on its way to memory has its DOWNSTREAM entry in flight (R47, R108). -/
theorem State.portsAgree.entry_of_down (h : s.portsAgree) {d : HostDown} (hd : d ∈ s.downstream) :
    ∃ e ∈ s.inflight, e.order = d.order ∧ e.request.initiator = d.request.initiator ∧ e.status = .downstream := by
  obtain ⟨-, -, -, -, hperm⟩ := State.portsAgree_iff.mp h
  obtain ⟨e, he, hs, hk⟩ := mem_keysWhere (hperm.subset (List.mem_map_of_mem hd))
  obtain ⟨ho, hi⟩ := Prod.mk.inj hk
  exact ⟨e, he, ho.symm, hi.symm, by simpa using hs⟩

/-- At the place of an entry of another status no key stands. -/
theorem State.portsAgree.keys_other {β : Type} (h : s.portsAgree) {e : InFlight} (he : e ∈ s.inflight) {p : Status → Bool}
    {f : Request → β} (hp : p e.status = false) : ∀ k ∈ keysWhere p f s.inflight, k.1 ≠ e.order := by
  intro k hk ho
  obtain ⟨g, hg, hs, rfl⟩ := mem_keysWhere hk
  obtain rfl := h.eq_of_order he hg ho
  rw [hp] at hs
  cases hs

/-! ### The updates of the ports -/

/-- A departure takes READY entries alone (R48). -/
theorem State.portsAgree.depart (h : s.portsAgree) (i : Initiator) : (s.depart i).portsAgree := by
  obtain ⟨hsorted, hyoung, hheld, hwait, hdown⟩ := State.portsAgree_iff.mp h
  have stays := departures_sublist i s.inflight
  refine State.portsAgree_iff.mpr ⟨hsorted.sublist (stays.map _), fun e he => hyoung e (stays.subset he), ?_, hwait, ?_⟩
  · rw [State.depart_inflight, keysWhere_departures _ _ (fun _ => rfl)]
    exact hheld
  · rw [State.depart_inflight, keysWhere_departures _ _ (fun _ => rfl)]
    exact hdown

/-- A change that leaves the place, the request and the status of each entry. -/
theorem State.portsAgree.change (h : s.portsAgree) {c : InFlight → InFlight}
    (hc : ∀ e, (c e).order = e.order ∧ (c e).request = e.request ∧ (c e).status = e.status) :
    ({ s with inflight := s.inflight.map c } : State).portsAgree := by
  obtain ⟨hsorted, hyoung, hheld, hwait, hdown⟩ := State.portsAgree_iff.mp h
  refine State.portsAgree_iff.mpr ⟨?_, fun f hf => ?_, ?_, hwait, ?_⟩
  · simpa only [List.map_map, Function.comp_def, hc] using hsorted
  · obtain ⟨e, he, rfl⟩ := List.mem_map.mp hf
    exact (hc e).1.symm ▸ hyoung e he
  · rw [keysWhere_map _ _ hc]
    exact hheld
  · rw [keysWhere_map _ _ hc]
    exact hdown

/-- A status given to the entries at a place leaves the places. -/
theorem State.setStatus_orders (s : State) (n : Nat) (st : Status) :
    (s.setStatus n st).inflight.map (·.order) = s.inflight.map (·.order) := by
  rw [State.setStatus_inflight, List.map_map]
  refine List.map_congr_left fun e _ => ?_
  dsimp only [Function.comp_apply]
  split <;> rfl

theorem State.portsAgree.setStatus_places (h : s.portsAgree) (n : Nat) (st : Status) :
    ((s.setStatus n st).inflight.map (·.order)).Pairwise (· < ·) ∧ ∀ e ∈ (s.setStatus n st).inflight, e.order < s.nextOrder := by
  obtain ⟨hsorted, hyoung, -⟩ := h
  rw [State.setStatus_orders]
  refine ⟨hsorted, fun f hf => ?_⟩
  have hmem : f.order ∈ s.inflight.map (·.order) := s.setStatus_orders n st ▸ List.mem_map_of_mem hf
  obtain ⟨e, he, ho⟩ := List.mem_map.mp hmem
  exact ho ▸ hyoung e he

/-- The request at a place leaves the hold queue as its key leaves the HELD entries (R70, R71). -/
theorem State.portsAgree.unhold_keys (h : s.portsAgree) (n : Nat) {st : Status} (hst : st ≠ .held) :
    (s.unhold n).holdQueue.map (fun g => (g.order, g.request)) = keysWhere (· == .held) id (s.setStatus n st).inflight := by
  obtain ⟨-, -, hheld, -⟩ := State.portsAgree_iff.mp h
  rw [State.setStatus_inflight, keysWhere_setStatus _ _ (by simpa using hst), ← hheld, List.filter_map]
  rfl

/-- A held request is answered: it leaves the hold queue, and its entry is READY (R76, R80). -/
theorem State.portsAgree.answerHeldOne (h : s.portsAgree) {g : Held} (hg : g ∈ s.holdQueue) (a : AnswerForm) :
    ((s.unhold g.order).setStatus g.order (.ready a)).portsAgree := by
  obtain ⟨e, he, ho, -, hs⟩ := h.entry_of_held hg
  obtain ⟨-, -, -, hwait, hdown⟩ := State.portsAgree_iff.mp h
  obtain ⟨hsorted, hyoung⟩ := h.setStatus_places g.order (.ready a)
  refine State.portsAgree_iff.mpr ⟨hsorted, hyoung, h.unhold_keys g.order (by simp), hwait, ?_⟩
  rw [State.setStatus_inflight, keysWhere_setStatus _ _ rfl, State.unhold_inflight, ← ho,
    filter_other_place (h.keys_other he (by rw [hs]; rfl))]
  exact hdown

/-- A held request is handed over: it leaves the hold queue, its entry is DOWNSTREAM, and it takes its place in the wait list (R76,
R109). -/
theorem State.portsAgree.sendHeldOne (h : s.portsAgree) {g : Held} (hg : g ∈ s.holdQueue) (p : Purpose) {r : Request}
    (hr : r.initiator = g.request.initiator) :
    (((s.unhold g.order).setStatus g.order .downstream).handOver ⟨g.order, p, r⟩).portsAgree := by
  obtain ⟨e, he, ho, hreq, hs⟩ := h.entry_of_held hg
  obtain ⟨hsort, -, -, hwait, hdown⟩ := State.portsAgree_iff.mp h
  obtain ⟨hsorted, hyoung⟩ := h.setStatus_places g.order .downstream
  refine State.portsAgree_iff.mpr ⟨hsorted, hyoung, h.unhold_keys g.order (by simp), ?_, ?_⟩
  · refine insertWaiting_sorted _ _ hwait fun d hd hdo => ?_
    obtain ⟨f, hf, hfo, -, hfs⟩ := h.entry_of_down (List.mem_append_left _ hd)
    obtain rfl := h.eq_of_order he hf (hfo.trans (hdo.trans ho.symm))
    rw [hs] at hfs
    cases hfs
  · have lists : (((s.unhold g.order).setStatus g.order .downstream).handOver ⟨g.order, p, r⟩).downstream.Perm
        (⟨g.order, p, r⟩ :: s.downstream) :=
      (insertWaiting_perm ⟨g.order, p, r⟩ s.waitList).append_right _
    obtain ⟨pre, post, hl, hset⟩ := setStatus_split hsort he
    have before : keysWhere (· == .downstream) (·.initiator) s.inflight =
        keysWhere (· == .downstream) (·.initiator) pre ++ keysWhere (· == .downstream) (·.initiator) post := by
      rw [hl, keysWhere_append]
      simp [keysWhere, hs]
    have after : keysWhere (· == .downstream) (·.initiator) (s.setStatus g.order .downstream).inflight =
        keysWhere (· == .downstream) (·.initiator) pre ++
          (g.order, r.initiator) :: keysWhere (· == .downstream) (·.initiator) post := by
      rw [State.setStatus_inflight, ← ho, hset, keysWhere_append]
      simp [keysWhere, hr, hreq, ho]
    refine (lists.map _).trans ?_
    show List.Perm _ (keysWhere _ _ (s.setStatus g.order .downstream).inflight)
    rw [after]
    exact ((before ▸ hdown).cons _).trans List.perm_middle.symm

/-- The request that memory answers leaves the outstanding table, and its entry is READY (R112, R113). -/
theorem State.portsAgree.served_ready (h : s.portsAgree) {n : Nat} {d : HostDown}
    (hd : s.outstanding.find? (·.serves n) = some (.host d)) (a : AnswerForm) :
    (({ s with outstanding := s.outstanding.eraseP (·.serves n) } : State).setStatus n (.ready a)).portsAgree := by
  obtain ⟨hserves, pre, post, ho, hpre⟩ := List.find?_eq_some_iff_append.mp hd
  have hn : d.order = n := by simpa [Outstanding.serves] using hserves
  have erased : s.outstanding.eraseP (·.serves n) = pre ++ post := by
    rw [ho, List.eraseP_append_right _ fun o h => by simpa using hpre o h]
    simp [hserves]
  have lists : s.downstream.Perm (d :: ({ s with outstanding := pre ++ post } : State).downstream) := by
    simp only [State.downstream, ho, List.filterMap_append, List.filterMap_cons, ← List.append_assoc]
    exact List.perm_middle
  obtain ⟨hsort, -, hheld, hwait, hdown⟩ := State.portsAgree_iff.mp h
  have keys := ((lists.map fun d => (d.order, d.request.initiator)).symm.trans hdown)
  rw [List.map_cons] at keys
  have others : ∀ k ∈ ({ s with outstanding := pre ++ post } : State).downstream.map (fun d => (d.order, d.request.initiator)),
      k.1 ≠ n := by
    have nodup := (keys.map Prod.fst).nodup_iff.mpr ((keysWhere_sorted _ _ hsort).imp fun h => Nat.ne_of_lt h)
    rw [List.map_cons, List.nodup_cons] at nodup
    exact fun k hk hkn => nodup.1 (List.mem_map.mpr ⟨k, hk, hkn.trans hn.symm⟩)
  obtain ⟨e, he, heo, -, hes⟩ := h.entry_of_down (lists.symm.subset List.mem_cons_self)
  obtain ⟨hsorted, hyoung⟩ := h.setStatus_places n (.ready a)
  rw [erased]
  refine State.portsAgree_iff.mpr ⟨hsorted, hyoung, ?_, hwait, ?_⟩
  · rw [State.setStatus_inflight, keysWhere_setStatus _ _ rfl, ← hn, ← heo,
      filter_other_place (h.keys_other he (by rw [hes]; rfl))]
    exact hheld
  · rw [State.setStatus_inflight, keysWhere_setStatus _ _ rfl]
    have filtered := keys.filter (·.1 != n)
    rw [List.filter_cons, if_neg (by simp [hn]), filter_other_place others] at filtered
    exact filtered

/-- The drain writes are none of the host-origin requests (R108). -/
theorem State.portsAgree.drainDone (h : s.portsAgree) (l : Line) :
    ({ s with outstanding := s.outstanding.eraseP (·.drains l) } : State).portsAgree := by
  rcases List.exists_or_eq_self_of_eraseP (·.drains l) s.outstanding with e | ⟨o, pre, post, -, hdrains, ho, e⟩
  · rw [e]
    exact h
  · rw [e]
    cases o with
    | host d => cases hdrains
    | drain r => exact h.completed ho

theorem State.portsAgree.issueHost (h : s.portsAgree) : s.issueHost.portsAgree := by
  obtain ⟨hsorted, hyoung, hheld, hwait, hdown⟩ := State.portsAgree_iff.mp h
  refine State.portsAgree_iff.mpr ⟨hsorted, hyoung, hheld, hwait.sublist ((List.drop_sublist _ _).map _), ?_⟩
  exact (s.issueHost_downstream.map _).trans hdown

theorem State.issuePicked_downstream (s : State) (x : List DrainRef × List DrainRef) : (s.issuePicked x).downstream = s.downstream := by
  simp [State.downstream_eq, State.issuePicked]

/-- The entry of a request taken now comes last in both orders (R46, R47). -/
theorem State.portsAgree.joined_places (h : s.portsAgree) {e : InFlight} (ho : e.order = s.nextOrder) :
    ((s.joined e).inflight.map (·.order)).Pairwise (· < ·) ∧ ∀ f ∈ (s.joined e).inflight, f.order < (s.joined e).nextOrder := by
  obtain ⟨hsorted, hyoung, -⟩ := h
  refine ⟨?_, fun f hf => ?_⟩
  · rw [State.joined, List.map_append, List.pairwise_append]
    refine ⟨hsorted, List.pairwise_singleton _ _, fun n hn m hm => ?_⟩
    obtain ⟨f, hf, rfl⟩ := List.mem_map.mp hn
    exact (hyoung f hf).trans_eq (ho.symm.trans (List.mem_singleton.mp hm).symm)
  · rcases List.mem_append.mp hf with hf | hf
    · exact Nat.lt_succ_of_lt (hyoung f hf)
    · rw [List.mem_singleton.mp hf, ho]
      exact Nat.lt_succ_self _

/-- The new entry has the last key of its own status, and no key of another. -/
theorem State.joined_keys {β : Type} (s : State) {e : InFlight} {p : Status → Bool} (f : Request → β) (hp : p e.status = true) :
    keysWhere p f (s.joined e).inflight = keysWhere p f s.inflight ++ [(e.order, f e.request)] := by
  rw [State.joined, keysWhere_append]
  simp [keysWhere, hp]

theorem State.joined_keys_other {β : Type} (s : State) {e : InFlight} {p : Status → Bool} (f : Request → β)
    (hp : p e.status = false) : keysWhere p f (s.joined e).inflight = keysWhere p f s.inflight := by
  rw [State.joined, keysWhere_append]
  simp [keysWhere, hp]

theorem State.portsAgree.joinHeld (h : s.portsAgree) {e : InFlight} {g : Held} (ho : e.order = s.nextOrder) (hs : e.status = .held)
    (hgo : g.order = e.order) (hgr : g.request = e.request) :
    ({ s.joined e with holdQueue := s.holdQueue ++ [g] } : State).portsAgree := by
  obtain ⟨-, -, hheld, hwait, hdown⟩ := State.portsAgree_iff.mp h
  obtain ⟨hsorted, hyoung⟩ := h.joined_places ho
  refine State.portsAgree_iff.mpr ⟨hsorted, hyoung, ?_, hwait, ?_⟩
  · rw [s.joined_keys id (by rw [hs]; rfl), List.map_append, hheld, List.map_singleton, hgo, hgr]
    rfl
  · exact hdown.trans (.of_eq (s.joined_keys_other _ (by rw [hs]; rfl)).symm)

theorem State.portsAgree.joinReady (h : s.portsAgree) {e : InFlight} {a : AnswerForm} (ho : e.order = s.nextOrder)
    (hs : e.status = .ready a) : (s.joined e).portsAgree := by
  obtain ⟨-, -, hheld, hwait, hdown⟩ := State.portsAgree_iff.mp h
  obtain ⟨hsorted, hyoung⟩ := h.joined_places ho
  refine State.portsAgree_iff.mpr ⟨hsorted, hyoung, ?_, hwait, ?_⟩
  · exact hheld.trans (s.joined_keys_other _ (by rw [hs]; rfl)).symm
  · exact hdown.trans (.of_eq (s.joined_keys_other _ (by rw [hs]; rfl)).symm)

theorem State.portsAgree.joinDown (h : s.portsAgree) {e : InFlight} (p : Purpose) {r : Request} (ho : e.order = s.nextOrder)
    (hs : e.status = .downstream) (hr : r.initiator = e.request.initiator) :
    ((s.joined e).handOver ⟨e.order, p, r⟩).portsAgree := by
  obtain ⟨-, younger, hheld, hwait, hdown⟩ := State.portsAgree_iff.mp h
  obtain ⟨hsorted, hyoung⟩ := h.joined_places ho
  refine State.portsAgree_iff.mpr ⟨hsorted, hyoung, ?_, ?_, ?_⟩
  · exact hheld.trans (s.joined_keys_other _ (by rw [hs]; rfl)).symm
  · refine insertWaiting_sorted _ _ hwait fun d hd => Nat.ne_of_lt ?_
    obtain ⟨f, hf, hfo, -⟩ := h.entry_of_down (List.mem_append_left _ hd)
    exact (hfo ▸ younger f hf).trans_eq ho.symm
  · have lists : ((s.joined e).handOver ⟨e.order, p, r⟩).downstream.Perm (⟨e.order, p, r⟩ :: s.downstream) :=
      (insertWaiting_perm ⟨e.order, p, r⟩ s.waitList).append_right _
    rw [State.handOver_inflight, s.joined_keys _ (by rw [hs]; rfl), ← hr]
    exact ((lists.map _).trans (hdown.cons _)).trans (List.perm_append_singleton _ _).symm

/-- Where each held request may be answered, INIT may answer them all (R83): each is the first of those that are left. -/
theorem answerHeld_of_answer {P : State → Prop} (agree : ∀ t, P t → t.portsAgree)
    (answer : ∀ t g, g ∈ t.holdQueue → P t → P ((t.unhold g.order).determine g.order g.request.initiator .error)) (hs : P s) :
    P s.answerHeld := by
  have run : ∀ (q : List Held) (t : State), P { t with holdQueue := q } →
      P (q.foldl (fun t h => t.determine h.order h.request.initiator .error) { t with holdQueue := [] }) := by
    intro q
    induction q with
    | nil => exact fun _ ht => ht
    | cons g q ih =>
      intro t ht
      have first := answer _ g List.mem_cons_self ht
      have sorted := (agree _ ht).holdSorted
      rw [List.map_cons, List.pairwise_cons] at sorted
      have rest : (g :: q).filter (fun f => f.order != g.order) = q := by
        rw [List.filter_cons, if_neg (by simp)]
        exact List.filter_eq_self.mpr fun f hf => by simpa using Nat.ne_of_gt (sorted.1 _ (List.mem_map_of_mem hf))
      unfold State.unhold at first
      dsimp only at first
      rw [rest] at first
      exact ih (t.determine g.order g.request.initiator .error) first
  exact run s.holdQueue s hs

theorem portsAgree_keeps : PortKeeps State.portsAgree where
  ports _ := Iff.rfl
  rehold s g reason w met _ h := by
    obtain ⟨h1, h2, hheld, h4, h5⟩ := State.portsAgree_iff.mp h
    refine State.portsAgree_iff.mpr ⟨h1, h2, ?_, h4, h5⟩
    rw [State.rehold_holdQueue, List.map_map]
    refine Eq.trans (List.map_congr_left fun k _ => ?_) hheld
    dsimp only [Function.comp_apply, Held.reheld]
    split <;> rfl
  capture s n cap h := h.change fun e => by split <;> exact ⟨rfl, rfl, rfl⟩
  answer s g a hg h := (h.answerHeldOne hg a).depart _
  send s g p r hg hr h := h.sendHeldOne hg p hr
  issueHost s h := h.issueHost
  issue s waits h := by
    obtain ⟨h1, h2, h3, h4, hdown⟩ := State.portsAgree_iff.mp h
    exact State.portsAgree_iff.mpr ⟨h1, h2, h3, h4, (s.issuePicked_downstream _).symm ▸ hdown⟩
  drainDone s l h := h.drainDone l
  served s n d a hd h := (h.served_ready hd a).depart _
  answerHeld s h := answerHeld_of_answer (fun _ ht => ht) (fun t g hg ht => (ht.answerHeldOne hg .error).depart _) h
  joinHeld s e g _ ho hs hgo hgr h := h.joinHeld ho hs hgo hgr
  joinReady s e a _ ho hs h := (h.joinReady ho hs).depart _
  joinDown s e p r _ ho hs hr h := h.joinDown p ho hs hr

/-! ### No request is lost -/

/-- From `s` to `t` no request is lost: answers are only added, and each request in flight at `s`, and each taken since, is in flight or has
been answered (R44). -/
def State.losesNone (s t : State) : Prop :=
  s.answers <+: t.answers ∧
    (∀ e ∈ s.inflight,
      (∃ f ∈ t.inflight, f.order = e.order ∧ f.request = e.request) ∨
        ∃ a, ({ order := e.order, initiator := e.request.initiator, form := a } : Answer) ∈ t.answers) ∧
    ∀ n, s.nextOrder ≤ n → n < t.nextOrder →
      (∃ f ∈ t.inflight, f.order = n) ∨ ∃ i a, ({ order := n, initiator := i, form := a } : Answer) ∈ t.answers

theorem State.losesNone.refl (s : State) : s.losesNone s :=
  ⟨List.prefix_refl _, fun e he => .inl ⟨e, he, rfl, rfl⟩, fun _ h1 h2 => absurd h2 (Nat.not_lt.mpr h1)⟩

theorem State.losesNone.trans {u : State} (h : s.losesNone t) (h' : t.losesNone u) : s.losesNone u := by
  obtain ⟨hmore, hkept, htaken⟩ := h
  obtain ⟨hmore', hkept', htaken'⟩ := h'
  refine ⟨hmore.trans hmore', fun e he => ?_, fun n hn hnu => ?_⟩
  · rcases hkept e he with ⟨f, hf, hfo, hfr⟩ | ⟨a, ha⟩
    · have := hkept' f hf
      rwa [hfo, hfr] at this
    · exact .inr ⟨a, hmore'.subset ha⟩
  · by_cases hnt : n < t.nextOrder
    · rcases htaken n hn hnt with ⟨f, hf, rfl⟩ | ⟨i, a, ha⟩
      · refine (hkept' f hf).imp (fun ⟨g, hg, hgo, _⟩ => ⟨g, hg, hgo⟩) fun ⟨a, ha⟩ => ⟨f.request.initiator, a, ha⟩
      · exact .inr ⟨i, a, hmore'.subset ha⟩
    · exact htaken' n (Nat.not_lt.mp hnt) hnu

/-- A departure turns an entry into its answer (R48). -/
theorem State.losesNone_depart (s : State) (i : Initiator) : s.losesNone (s.depart i) := by
  refine ⟨List.prefix_append _ _, fun e he => ?_, fun _ h1 h2 => absurd h2 (Nat.not_lt.mpr h1)⟩
  rcases departures_mem i s.inflight he with hstay | ⟨a, -, hleft⟩
  · exact .inl ⟨e, hstay, rfl, rfl⟩
  · exact .inr ⟨a, List.mem_append_right _ hleft⟩

theorem losesNone_keeps (s : State) : EntryKeeps s.losesNone where
  entries _ := Iff.rfl
  change t c hc h := by
    refine h.trans ⟨List.prefix_refl _, fun e he => ?_, fun _ h1 h2 => absurd h2 (Nat.not_lt.mpr h1)⟩
    exact .inl ⟨c e, List.mem_map_of_mem he, (hc e).2, (hc e).1⟩
  depart t i h := h.trans (t.losesNone_depart i)
  joined t e ho h := by
    refine h.trans ⟨List.prefix_refl _, fun f hf => ?_, fun n h1 h2 => ?_⟩
    · exact .inl ⟨f, List.mem_append_left _ hf, rfl, rfl⟩
    · have h2 : n < t.nextOrder + 1 := h2
      exact .inl ⟨e, List.mem_append_right _ List.mem_cons_self, by omega⟩

/-- Settles O8: the agreement by `portsAgree_keeps`, and the requests by `losesNone_keeps`. -/
theorem portsGoOnAgreeing : Obligations.PortsGoOnAgreeing := by
  intro s t hs hst
  obtain ⟨-, -, -, -, hreset, -⟩ := resetStateIsLawful
  refine ⟨portsAgree_keeps.law hreset hs hst, ?_⟩
  rcases (losesNone_keeps s).portKeeps.of_step (.refl s) hst with kept | ⟨reset, -⟩
  · exact .inr kept
  · exact .inl reset

end Sys2Proof.Machine
end

section
/-! No answer waits that could leave (R48), through every step. -/

namespace Sys2Proof.Machine

variable {s : State}

/-! ### The oldest request of an initiator -/

/-- The oldest request of the initiator in the list, if there is one, is not READY (R48). -/
def oldestWaits (i : Initiator) (l : List InFlight) : Prop :=
  ∀ e, l.find? (fun e => e.request.initiator == i) = some e → ∀ a, e.status ≠ .ready a

theorem State.noAnswerWaits_iff : s.noAnswerWaits ↔ ∀ i, oldestWaits i s.inflight := Iff.rfl

/-- It depends on the entries of the initiator alone. -/
theorem oldestWaits_congr {i : Initiator} {l m : List InFlight}
    (h : l.filter (fun e => e.request.initiator == i) = m.filter fun e => e.request.initiator == i) :
    oldestWaits i l ↔ oldestWaits i m := by
  unfold oldestWaits
  rw [← List.head?_filter, ← List.head?_filter, h]

/-- A departure lets every answer leave that can (R48). -/
theorem departures_oldestWaits (i : Initiator) (l : List InFlight) : oldestWaits i (departures i l).2 := by
  induction l with
  | nil => exact fun e he => nomatch he
  | cons x l ih =>
    unfold departures
    split
    · next hx =>
      split
      · exact ih
      · next hs =>
        intro e he
        rw [List.find?_cons_of_pos (by simpa using hx)] at he
        obtain rfl := Option.some.inj he
        exact hs
    · next hx =>
      intro e he
      rw [List.find?_cons_of_neg (by simpa using hx)] at he
      exact ih e he

/-- A change of entries that makes none READY. -/
theorem oldestWaits_map {i : Initiator} {l : List InFlight} {c : InFlight → InFlight} (h : oldestWaits i l)
    (hr : ∀ e, (c e).request = e.request) (hs : ∀ e a, (c e).status = .ready a → e.status = .ready a) : oldestWaits i (l.map c) := by
  intro f hf a ha
  rw [List.find?_map] at hf
  simp only [Function.comp_def, hr] at hf
  obtain ⟨e, he, rfl⟩ := Option.map_eq_some_iff.mp hf
  exact h e he a (hs e a ha)

/-- A new youngest entry that is not READY. -/
theorem oldestWaits_append {i : Initiator} {l : List InFlight} {e : InFlight} (h : oldestWaits i l)
    (he : ∀ a, e.status ≠ .ready a) : oldestWaits i (l ++ [e]) := by
  intro f hf
  rw [List.find?_append] at hf
  cases hl : l.find? (fun e => e.request.initiator == i) with
  | some g =>
    rw [hl] at hf
    obtain rfl := Option.some.inj hf
    exact h g hl
  | none =>
    rw [hl, Option.none_or] at hf
    obtain rfl := List.mem_singleton.mp (List.mem_of_find?_eq_some hf)
    exact he

/-! ### The updates of the ports -/

/-- Once the answers of an initiator have left, none waits if none of another did (R48). -/
theorem State.depart_noAnswerWaits (i : Initiator) (h : ∀ j, j ≠ i → oldestWaits j s.inflight) : (s.depart i).noAnswerWaits := by
  intro j
  by_cases hj : j = i
  · subst hj
    exact departures_oldestWaits j s.inflight
  · exact (oldestWaits_congr (departures_others hj s.inflight)).mpr (h j hj)

/-- The answer of a request of initiator `i` is determined (R48). -/
theorem State.noAnswerWaits.determine {t : State} (h : s.noAnswerWaits) (ht : t.inflight = s.inflight) {n : Nat} {i : Initiator}
    (hn : ∀ e ∈ s.inflight, e.order = n → e.request.initiator = i) (a : AnswerForm) : (t.determine n i a).noAnswerWaits := by
  refine State.depart_noAnswerWaits i fun j hj => ?_
  refine (oldestWaits_congr ?_).mpr (h j)
  rw [State.setStatus_inflight, ht, List.filter_map]
  have untouched : ∀ e ∈ s.inflight.filter (fun e => e.request.initiator == j),
      (if e.order = n then { e with status := .ready a } else e) = e := fun e he => by
    obtain ⟨he, hi⟩ := List.mem_filter.mp he
    exact if_neg fun ho => hj ((beq_iff_eq.mp hi).symm.trans (hn e he ho))
  have same : ((fun e : InFlight => e.request.initiator == j) ∘ fun e => if e.order = n then { e with status := .ready a } else e) =
      fun e => e.request.initiator == j := funext fun e => by
    dsimp only [Function.comp_apply]
    split <;> rfl
  rw [same]
  exact (List.map_congr_left (g := id) untouched).trans (List.map_id _)

/-- The answer of a held request (R76, R80, R83). -/
theorem State.noAnswerWaits.answerHeldOne (h : s.noAnswerWaits) (hp : s.portsAgree) {g : Held} (hg : g ∈ s.holdQueue) (a : AnswerForm) :
    ((s.unhold g.order).determine g.order g.request.initiator a).noAnswerWaits := by
  obtain ⟨e, he, ho, hr, -⟩ := hp.entry_of_held hg
  refine h.determine rfl (fun f hf hfo => ?_) a
  obtain rfl := hp.eq_of_order he hf (hfo.trans ho.symm)
  rw [hr]

/-- The answer of a request that memory has served (R66). -/
theorem State.noAnswerWaits.served (h : s.noAnswerWaits) (hp : s.portsAgree) {n : Nat} {d : HostDown}
    (hd : s.outstanding.find? (·.serves n) = some (.host d)) (a : AnswerForm) :
    (({ s with outstanding := s.outstanding.eraseP (·.serves n) } : State).determine n d.request.initiator a).noAnswerWaits := by
  have hn : d.order = n := by simpa [Outstanding.serves] using List.find?_some hd
  have hmem : d ∈ s.downstream :=
    List.mem_append_right _ (List.mem_filterMap.mpr ⟨_, List.mem_of_find?_eq_some hd, rfl⟩)
  obtain ⟨e, he, ho, hi, -⟩ := hp.entry_of_down hmem
  refine h.determine rfl (fun f hf hfo => ?_) a
  obtain rfl := hp.eq_of_order he hf (hfo.trans (hn.symm.trans ho.symm))
  exact hi

theorem noAnswerWaits_keeps : PortKeeps fun s => s.portsAgree ∧ s.noAnswerWaits where
  ports _ := Iff.rfl
  rehold s g reason w met hg h := ⟨portsAgree_keeps.rehold s g reason w met hg h.1, h.2⟩
  capture s n cap h := by
    obtain ⟨hp, hn⟩ := h
    refine ⟨portsAgree_keeps.capture s n cap hp, fun i => oldestWaits_map (hn i) (fun e => ?_) fun e a ha => ?_⟩
    · split <;> rfl
    · split at ha <;> exact ha
  answer s g a hg h := ⟨portsAgree_keeps.answer s g a hg h.1, h.2.answerHeldOne h.1 hg a⟩
  send s g p r hg hr h := by
    obtain ⟨hp, hn⟩ := h
    refine ⟨portsAgree_keeps.send s g p r hg hr hp, fun i => oldestWaits_map (hn i) (fun e => ?_) fun e a ha => ?_⟩
    · split <;> rfl
    · split at ha
      · cases ha
      · exact ha
  issueHost s h := ⟨portsAgree_keeps.issueHost s h.1, h.2⟩
  issue s waits h := ⟨portsAgree_keeps.issue s waits h.1, h.2⟩
  drainDone s l h := ⟨portsAgree_keeps.drainDone s l h.1, h.2⟩
  served s n d a hd h := ⟨portsAgree_keeps.served s n d a hd h.1, h.2.served h.1 hd a⟩
  answerHeld s h :=
    answerHeld_of_answer (P := fun s => s.portsAgree ∧ s.noAnswerWaits) (fun _ ht => ht.1)
      (fun t g hg ht => ⟨portsAgree_keeps.answer t g .error hg ht.1, ht.2.answerHeldOne ht.1 hg .error⟩) h
  joinHeld s e g hc ho hs hgo hgr h :=
    ⟨portsAgree_keeps.joinHeld s e g hc ho hs hgo hgr h.1, fun i => oldestWaits_append (h.2 i) (by simp [hs])⟩
  joinReady s e a hc ho hs h := by
    refine ⟨portsAgree_keeps.joinReady s e a hc ho hs h.1, State.depart_noAnswerWaits _ fun j hj => ?_⟩
    refine (oldestWaits_congr ?_).mpr (h.2 j)
    simp [State.joined, Ne.symm hj]
  joinDown s e p r hc ho hs hr h :=
    ⟨portsAgree_keeps.joinDown s e p r hc ho hs hr h.1, fun i => oldestWaits_append (h.2 i) (by simp [hs])⟩

/-- Settles O9: each update of the ports that makes an entry READY lets the answers of its initiator leave (`noAnswerWaits_keeps`). -/
theorem noAnswerWaitsNeedlessly : Obligations.NoAnswerWaitsNeedlessly := by
  intro s t hp hn hst
  obtain ⟨-, -, -, -, hports, hwaits, -⟩ := resetStateIsLawful
  obtain ⟨-, kept⟩ := noAnswerWaits_keeps.law ⟨hports, hwaits⟩ ⟨hp, hn⟩ hst
  exact kept

end Sys2Proof.Machine
end

section
/-! The settings that a register write takes in range: the hold limit, the minimum gap and the internal period (R79, R143, R144). -/

namespace Sys2Proof.Machine

variable {s : State} {v : Word} {n : Nat}

/-- The lowest field of a word, as the number that R159 gives it and as the value the setting takes. -/
theorem lowestField_eq (len : Nat) (h : v.toNat % 2 ^ len = n) : bitsOf v 0 len = n ∧ v.extractLsb' 0 len = BitVec.ofNat len n := by
  have hbits : bitsOf v 0 len = n := by simpa [bitsOf] using h
  exact ⟨hbits, by rw [← hbits, bitsOf, BitVec.ofNat_toNat, BitVec.setWidth_eq]⟩

theorem exec_holdLimitWrite (h : v.toNat % 2 ^ 16 = n) :
    exec (.holdLimitWrite ⟨v, 0xF⟩) s = .next (if 16 ≤ n then { s with holdLimit := BitVec.ofNat 16 n } else s.ignoreWrite) := by
  obtain ⟨hbits, hval⟩ := lowestField_eq 16 h
  show Host.Outcome.next (s.writeHoldLimit (s.mergeWrite .holdLimit ⟨v, 0xF⟩)) = _
  rw [State.mergeWrite_full, State.writeHoldLimit, hbits, hval]

theorem exec_minimumGapWrite (h : v.toNat % 2 ^ 16 = n) :
    exec (.minimumGapWrite ⟨v, 0xF⟩) s =
      .next (if 10 ≤ n ∧ n ≤ s.sel.period.toNat then { s with sel := { s.sel with gap := BitVec.ofNat 16 n } } else s.ignoreWrite) := by
  obtain ⟨hbits, hval⟩ := lowestField_eq 16 h
  show Host.Outcome.next (s.writeGap (s.mergeWrite .minimumGap ⟨v, 0xF⟩)) = _
  rw [State.mergeWrite_full, State.writeGap, hbits, hval]

theorem exec_internalPeriodWrite (h : v.toNat % 2 ^ 20 = n) :
    exec (.internalPeriodWrite ⟨v, 0xF⟩) s =
      .next (if 100 ≤ n ∧ n ≤ 1000000 ∧ s.sel.gap.toNat ≤ n then { s with sel := { s.sel with period := BitVec.ofNat 20 n } }
        else s.ignoreWrite) := by
  obtain ⟨hbits, hval⟩ := lowestField_eq 20 h
  show Host.Outcome.next (s.writePeriod (s.mergeWrite .internalPeriod ⟨v, 0xF⟩)) = _
  rw [State.mergeWrite_full, State.writePeriod, hbits, hval]
  rfl

/-- Settles O54: each write is judged as the word it carries, and takes its field where the range of its rule holds. -/
theorem settingWrites : Obligations.SettingWrites := by
  intro s v n
  refine ⟨fun h => ⟨fun hr => ?_, fun hr => ?_, fun hr => ?_, fun hr => ?_⟩, fun h => ⟨fun hr => ?_, fun hr => ?_⟩⟩
  · rw [exec_holdLimitWrite h, if_pos hr]
  · rw [exec_holdLimitWrite h, if_neg (by omega), State.ignoreWrite]
  · rw [exec_minimumGapWrite h, if_pos hr]
  · rw [exec_minimumGapWrite h, if_neg hr, State.ignoreWrite]
  · rw [exec_internalPeriodWrite h, if_pos hr]
  · rw [exec_internalPeriodWrite h, if_neg hr, State.ignoreWrite]

end Sys2Proof.Machine
end

section
/-! SUPPORT. The commands that deliver a beat, down to the evaluation of the windows (R86, R142 to R145, R148). -/

namespace Sys2Proof.Machine

variable {s : State} {x : Source}

/-- `s` as the windows find it at a beat of source `x`: the trackers and the selector have moved on, and a switch of source is recorded. -/
def State.beatAt (s : State) (x : Source) (a b : Tracker) (k : Selector) : State :=
  { s with trackerA := a, trackerB := b, sel := k, notif := (s.afterBeat x).notif }

/-- A candidate of C or of P passes the gap test at time `t` (R144, R145). -/
def Selector.delivers (k : Selector) (x : Source) (t : Time) : Prop :=
  (x = k.current ∨ k.target = some x) ∧ ∀ d, k.lastDelivered = some d → d + k.gap.toNat ≤ t

theorem Selector.delivers.gapPasses {k : Selector} {t : Time} (h : k.delivers x t) : k.gapPasses t = true := by
  unfold Selector.gapPasses
  split
  · rfl
  · next d hd => exact decide_eq_true (h.2 d hd)

theorem Selector.delivers.afterCandidate {k : Selector} {t : Time} (h : k.delivers x t) :
    (k.afterCandidate x t).beatNumber = k.beatNumber + 1 ∧ (k.afterCandidate x t).current = x := by
  unfold Selector.afterCandidate
  rw [if_pos ⟨h.2, h.1⟩]
  exact ⟨rfl, rfl⟩

theorem State.afterBeat_beatNumber (h : s.sel.delivers x s.timeBase) : (s.afterBeat x).sel.beatNumber = s.sel.beatNumber + 1 := by
  unfold State.afterBeat
  dsimp only
  split
  · exact h.afterCandidate.1
  · exact h.afterCandidate.1

/-- Only a candidate of P records a switch (R148). -/
theorem State.afterBeat_notif (h : s.sel.delivers x s.timeBase) :
    (s.afterBeat x).notif =
      if x = s.sel.current then s.notif
      else s.notif.record ⟨.sourceSwitched, .source x, s.sel.beatNumber + 1, none, none, 1⟩ := by
  obtain ⟨hbeat, hcur⟩ := h.afterCandidate
  unfold State.afterBeat
  dsimp only
  rw [hcur]
  split
  · rfl
  · rw [State.notify_notif]
    dsimp only
    rw [hbeat]

/-- A candidate that is delivered becomes the beat at which the windows are evaluated (R86, R145, R148). -/
theorem State.offer_delivers (h : s.sel.delivers x s.timeBase) (a b : Tracker) (n : Time) :
    ∃ k, k.beatNumber = s.sel.beatNumber + 1 ∧
      ({ s with trackerA := a, trackerB := b, sel := { s.sel with nextTime := n } } : State).offer x =
        (.delivered, (s.beatAt x a b k).evalBeat) := by
  have hg : ({ s.sel with nextTime := n } : Selector).gapPasses s.timeBase = true := h.gapPasses
  have hn := State.afterBeat_notif h
  unfold State.beatAt
  rcases State.offer_cases { s with trackerA := a, trackerB := b, sel := { s.sel with nextTime := n } } x with
    ⟨-, h1, h2⟩ | ⟨-, -, h2⟩ | ⟨hd, hc, -, e⟩ | ⟨hd, hc, -, -, e⟩
  · exact absurd h.1 (not_or.mpr ⟨h1, h2⟩)
  · rw [hg] at h2
    cases h2
  · refine ⟨({ s.sel with nextTime := n } : Selector).deliver s.timeBase, rfl, Prod.ext hd (e.trans ?_)⟩
    rw [hn, if_pos hc]
  · refine ⟨{ ({ s.sel with nextTime := n } : Selector).deliver s.timeBase with current := x, target := none }, rfl,
      Prod.ext hd (e.trans ?_)⟩
    rw [hn, if_neg hc]
    rfl

theorem State.setTracker_eq (s : State) (tr : BeatLine) (v : Tracker) :
    ∃ a b, s.setTracker tr v = { s with trackerA := a, trackerB := b } := by
  cases tr
  · exact ⟨v, s.trackerB, rfl⟩
  · exact ⟨s.trackerA, v, rfl⟩

/-- So does the candidate of a tracker that has just moved on (R136). -/
theorem State.setTracker_offer_delivers (h : s.sel.delivers x s.timeBase) (tr : BeatLine) (v : Tracker) :
    ∃ a b k, k.beatNumber = s.sel.beatNumber + 1 ∧
      (s.setTracker tr v).offer x = (.delivered, (s.beatAt x a b k).evalBeat) := by
  obtain ⟨a, b, hset⟩ := s.setTracker_eq tr v
  obtain ⟨k, hk, he⟩ := State.offer_delivers h a b s.sel.nextTime
  exact ⟨a, b, k, hk, hset ▸ he⟩

/-- An edge that is neither overdue nor early is accepted (R133). -/
theorem exec_beatEdge_accepted {tr : BeatLine} {e : Time} (hl : (s.tracker tr).holdsLock = true) (he : (s.tracker tr).expected = some e)
    (hlow : e ≤ s.timeBase + (s.tracker tr).tolerance.toNat) (hhigh : s.timeBase ≤ e + (s.tracker tr).tolerance.toNat) :
    exec (.beatEdge tr) s = .next ((s.setTracker tr ((s.tracker tr).accept s.timeBase)).offer tr.source).2 := by
  have hover : (s.tracker tr).missOverdue s.timeBase = false := by
    simp [Tracker.missOverdue, he, Nat.not_lt.mpr hhigh]
  have htaken : State.takeOverdue tr 8 s = s := if_neg (by simp [hover])
  have hedge : s.edge tr = s.judgeEdge tr := by
    unfold State.edge
    have hst : (s.tracker tr).state = .locked ∨ (s.tracker tr).state = .holdover := by simpa [Tracker.holdsLock] using hl
    rcases hst with hst | hst <;> rw [hst]
  show Host.Outcome.next (s.beatEdge tr) = _
  rw [State.beatEdge, htaken, hedge, State.judgeEdge, he]
  exact congrArg _ (if_neg (Nat.not_lt.mpr hlow))

/-- A miss below the limit coasts (R134). -/
theorem exec_trackerMiss_coasts {tr : BeatLine} {e : Time} (hl : (s.tracker tr).holdsLock = true) (he : (s.tracker tr).expected = some e)
    (hdue : e + (s.tracker tr).tolerance.toNat ≤ s.timeBase)
    (hlim : (s.tracker tr).missedCount + 1 < (s.tracker tr).missLimit.toNat) :
    exec (.trackerMiss tr) s = .next ((s.setTracker tr (s.tracker tr).coast).offer tr.source).2 := by
  have hmiss : (s.tracker tr).missDue s.timeBase = true := by simp [Tracker.missDue, hl, he, hdue]
  have hlock : (s.tracker tr).losesLock = false := by simpa [Tracker.losesLock] using hlim
  rw [exec_trackerMiss_due hmiss, State.miss]
  exact congrArg _ (if_neg (by simp [hlock]))

/-- BEAT_NOW whose candidate is delivered (R149). -/
theorem exec_beatNow_delivers (hb : s.port.busy = false) (hc : s.sel.current = .soft ∨ s.sel.target = some .soft) {t : State}
    (ho : s.offer .soft = (.delivered, t)) :
    exec .beatNow s = .next { t with port := { t.port with result := some (.done, .beatNow) } } := by
  show Host.Outcome.next (s.command .beatNow) = _
  rw [State.command_free hb]
  unfold State.takeCommand State.beatNow
  dsimp only
  rw [if_pos hc, ho]
  rfl

/-- A command that delivers a beat has the windows evaluated at it; beyond that only the command slot's result changes (R86, R145). -/
theorem exec_beat {c : Instr} (h : s.beatComesBy c x) :
    s.sel.delivers x s.timeBase ∧ s.port.busy = false ∧
      ∃ a b k p, k.beatNumber = s.sel.beatNumber + 1 ∧ exec c s = .next { (s.beatAt x a b k).evalBeat with port := p } := by
  obtain ⟨hoffers, hsource, hgap, hb⟩ := h
  have hd : s.sel.delivers x s.timeBase := ⟨hsource, hgap⟩
  refine ⟨hd, hb, ?_⟩
  have of_beat : ∀ a b k, k.beatNumber = s.sel.beatNumber + 1 → exec c s = .next (s.beatAt x a b k).evalBeat →
      ∃ a b k p, k.beatNumber = s.sel.beatNumber + 1 ∧ exec c s = .next { (s.beatAt x a b k).evalBeat with port := p } :=
    fun a b k hk he => ⟨a, b, k, _, hk, he⟩
  rcases hoffers with ⟨rfl, rfl, hnext⟩ | ⟨rfl, rfl⟩ | ⟨tr, e, p, rfl, hl, he, -, ⟨rfl, hlow, hhigh⟩ | ⟨rfl, hdue, hlim⟩⟩
  · obtain ⟨k, hk, ho⟩ := State.offer_delivers hd s.trackerA s.trackerB (s.timeBase + s.sel.period.toNat)
    refine of_beat s.trackerA s.trackerB k hk ?_
    rw [exec_internalCandidate_due hnext, State.internalTick, ho]
  · obtain ⟨k, hk, ho⟩ := State.offer_delivers hd s.trackerA s.trackerB s.sel.nextTime
    exact ⟨_, _, k, _, hk, exec_beatNow_delivers hb (hsource.imp_left Eq.symm) ho⟩
  · obtain ⟨a, b, k, hk, ho⟩ := State.setTracker_offer_delivers hd tr ((s.tracker tr).accept s.timeBase)
    refine of_beat a b k hk ?_
    rw [exec_beatEdge_accepted hl he hlow hhigh, ho]
  · obtain ⟨a, b, k, hk, ho⟩ := State.setTracker_offer_delivers hd tr (s.tracker tr).coast
    refine of_beat a b k hk ?_
    rw [exec_trackerMiss_coasts hl he hdue hlim, ho]

end Sys2Proof.Machine
end

section
/-! SUPPORT. What the evaluation of the windows at a beat leaves, outcome by outcome and window by window (R86 to R99). -/

namespace Sys2Proof.Machine

variable {s t : State} {w : WindowId}

/-! ### The outcome of a frame -/

/-- The record of a window after an outcome at the beat numbered `b` (R91, R92, R95 to R97). -/
def FrameOutcome.record (b : BitVec 32) (v : Window) : FrameOutcome → Window
  | .idle => v.endDue
  | .commit => v.committedAt b
  | .slip => { v with slips := if v.slipNoted then v.slips else satInc v.slips, slipNoted := true }
  | .lateDiscard => v.lateDiscarded
  | .lateCarry => { v with lateEvents := if v.lateNoted then v.lateEvents else satInc v.lateEvents, lateNoted := true }

/-- A slip counts once a due period (R95). -/
theorem FrameOutcome.record_slip (b : BitVec 32) (v : Window) :
    FrameOutcome.slip.record b v = if v.slipNoted then v else v.slipped := by
  obtain ⟨⟩ := v
  dsimp only [FrameOutcome.record]
  split
  · simp_all
  · rfl

/-- A late frame carried counts once a due period (R97). -/
theorem FrameOutcome.record_lateCarry (b : BitVec 32) (v : Window) :
    FrameOutcome.lateCarry.record b v = if v.lateNoted then v else v.lateCarried := by
  obtain ⟨⟩ := v
  dsimp only [FrameOutcome.record]
  split
  · simp_all
  · rfl

/-- The event that an outcome records for the window, if any (R92, R95 to R97). -/
def FrameOutcome.notes (v : Window) : FrameOutcome → Option NotifKind
  | .idle => none
  | .commit => if v.desc.notifyCommit then some .commit else none
  | .slip => if v.slipNoted then none else some .slip
  | .lateDiscard => some .lateDiscard
  | .lateCarry => if v.lateNoted then none else some .lateCarry

/-- The entries of a frame that commits become COMMITTED and join the tail of the drain queue (R26, R93). -/
def State.commitEntries (s : State) (w : WindowId) : State :=
  { s with
    pool := s.pool.map fun e => if e.window == w && e.isPending then e.commit else e
    drainQueue := s.drainQueue ++ (s.pendingList w).map fun e => ⟨w, e.line⟩ }

/-- What an outcome does to the store (R26, R96). -/
def FrameOutcome.store (s : State) (w : WindowId) : FrameOutcome → State
  | .commit => s.commitEntries w
  | .lateDiscard => s.freeEntries fun e => e.window == w && e.isPending
  | .idle | .slip | .lateCarry => s

/-- An event of window `w` recorded, if there is one. -/
def State.noted (s : State) (w : WindowId) : Option NotifKind → State
  | none => s
  | some k => s.notify k (.window w) none none

theorem State.noted_eq (s : State) (w : WindowId) (k : Option NotifKind) : s.noted w k = { s with notif := (s.noted w k).notif } := by
  cases k <;> rfl

theorem State.noted_window (s : State) (w u : WindowId) (k : Option NotifKind) : (s.noted w k).window u = s.window u := by
  rw [State.noted_eq]
  rfl

/-- An outcome changes the store, then the record, and then it is recorded. -/
theorem BeatRun.settle_state (x : BeatRun) (w : WindowId) (b : BitVec 32) (o : FrameOutcome) :
    (x.settle w b o).state = ((o.store x.state w).updWindow w (o.record b)).noted w (o.notes (x.state.window w)) := by
  cases o with
  | idle => rfl
  | commit =>
    show x.state.commitFrame w b = State.noted _ w (if (x.state.window w).desc.notifyCommit then some .commit else none)
    unfold State.commitFrame
    dsimp only
    split <;> rfl
  | slip =>
    have hrec := FrameOutcome.record_slip b (x.state.window w)
    show x.state.slip w = State.noted (x.state.updWindow w _) w (if (x.state.window w).slipNoted then none else some .slip)
    unfold State.slip
    split
    · next h => exact (State.updWindow_eq_self (f := (FrameOutcome.slip.record b ·)) (hrec.trans (if_pos h))).symm
    · next h => exact congrArg (State.noted · w (some .slip)) (State.updWindow_congr (hrec.trans (if_neg h)).symm)
  | lateDiscard => rfl
  | lateCarry =>
    have hrec := FrameOutcome.record_lateCarry b (x.state.window w)
    show x.state.lateCarry w = State.noted (x.state.updWindow w _) w (if (x.state.window w).lateNoted then none else some .lateCarry)
    unfold State.lateCarry
    split
    · next h => exact (State.updWindow_eq_self (f := (FrameOutcome.lateCarry.record b ·)) (hrec.trans (if_pos h))).symm
    · next h => exact congrArg (State.noted · w (some .lateCarry)) (State.updWindow_congr (hrec.trans (if_neg h)).symm)

theorem FrameOutcome.record_state (o : FrameOutcome) (b : BitVec 32) (v : Window) :
    (o.record b v).state = v.state ∧ (o.record b v).desc = v.desc := by
  cases o <;> exact ⟨rfl, rfl⟩

/-- Only a commit is counted as one (R92). -/
theorem FrameOutcome.record_commitCount (o : FrameOutcome) (b : BitVec 32) (v : Window) :
    (o.record b v).commitCount = if o = .commit then v.commitCount + 1 else v.commitCount := by
  cases o <;> rfl

theorem FrameOutcome.store_window (o : FrameOutcome) (s : State) (w u : WindowId) : (o.store s w).window u = s.window u := by
  cases o <;> rfl

/-- A free of PENDING entries takes nothing from the drain queue (R39, R106). -/
theorem State.freePending_drainQueue (s : State) (w : WindowId) :
    (s.freeEntries fun e => e.window == w && e.isPending).drainQueue = s.drainQueue := by
  refine List.filter_eq_self.mpr fun d _ => ?_
  simp only [Bool.not_eq_true', List.any_eq_false, Bool.and_eq_true, not_and, Entry.isCommittedOf_iff]
  intro e _ hp _ _ hc
  rw [hc] at hp
  cases hp.2

/-- Only a commit adds to the drain queue: the window's pending list, in its order (R93). -/
theorem FrameOutcome.store_drainQueue (o : FrameOutcome) (s : State) (w : WindowId) :
    (o.store s w).drainQueue =
      s.drainQueue ++ if o = .commit then (s.pendingLines w).map fun l => { window := w, line := l } else [] := by
  cases o with
  | commit => simp [FrameOutcome.store, State.commitEntries, State.pendingLines, Function.comp_def]
  | lateDiscard => exact (s.freePending_drainQueue w).trans (List.append_nil _).symm
  | idle | slip | lateCarry => exact (List.append_nil _).symm

/-! ### The lines of the store -/

theorem State.pendingLines_eq (s : State) (w : WindowId) :
    s.pendingLines w = ((s.pool.map Entry.key).filter fun k => k.1 == w && k.2.2).map (·.2.1) := by
  rw [List.filter_map, List.map_map]
  rfl

theorem State.pendingLines_nil : s.pendingLines w = [] ↔ s.pendingList w = [] := List.map_eq_nil_iff

theorem State.committedLines_nil : s.committedLines w = [] ↔ s.committedSet w = [] := List.map_eq_nil_iff

theorem State.commitEntries_keys (s : State) (w : WindowId) :
    (s.commitEntries w).pool.map Entry.key = (s.pool.map Entry.key).map (commitKey w) := by
  obtain ⟨-, -, hpool, -⟩ := s.commitFrame_keys w 0 w
  rw [← s.commitFrame_poolKeys w 0, hpool]
  rfl

/-- A late frame discarded or a frame committed leaves no PENDING entry of its window; any other outcome leaves the pending list (R26, R96). -/
theorem FrameOutcome.store_pendingLines (o : FrameOutcome) (s : State) (w : WindowId) :
    (o.store s w).pendingLines w = if o = .commit ∨ o = .lateDiscard then [] else s.pendingLines w := by
  cases o with
  | idle | slip | lateCarry => rfl
  | commit =>
    rw [State.pendingLines_eq, FrameOutcome.store, State.commitEntries_keys, List.filter_map]
    refine List.map_eq_nil_iff.mpr (List.map_eq_nil_iff.mpr (List.filter_eq_nil_iff.mpr fun k _ => ?_))
    by_cases hw : k.1 = w <;> simp [commitKey, hw]
  | lateDiscard =>
    refine State.pendingLines_nil.mpr (List.filter_eq_nil_iff.mpr fun e he => ?_)
    have hkept := (List.mem_filter.mp he).2
    simpa only [Bool.not_eq_true', Bool.not_eq_true] using hkept

/-- A commit makes the pending list the committed set, which was empty; no other outcome touches the committed set (R26, R90). -/
theorem FrameOutcome.store_committedLines (o : FrameOutcome) (s : State) (w : WindowId) (h : o = .commit → s.committedSet w = []) :
    (o.store s w).committedLines w = if o = .commit then s.pendingLines w else s.committedLines w := by
  cases o with
  | idle | slip | lateCarry => rfl
  | commit =>
    rw [if_pos rfl, State.committedLines_eq, State.committedKeys, FrameOutcome.store, State.commitEntries_keys, State.pendingLines_eq,
      List.filter_filter, List.filter_map, List.map_map]
    refine congrArg (List.map _) (List.filter_congr fun k hk => ?_)
    obtain ⟨e, he, rfl⟩ := List.mem_map.mp hk
    have hnone := List.filter_eq_nil_iff.mp (h rfl) e he
    by_cases hw : e.window = w
    · simpa [commitKey, Entry.key, hw] using hnone
    · have hne : (e.window == w) = false := by simpa using hw
      simp [commitKey, Entry.key, hne]
  | lateDiscard =>
    simp only [FrameOutcome.store, State.committedLines, State.committedSet, State.freeEntries_pool, List.filter_filter]
    refine congrArg (List.map _) (List.filter_congr fun e _ => ?_)
    cases e.isPending <;> simp

/-! ### Room for the oldest held write (R28) -/

/-- From `s` to `t` each window keeps its state and descriptor, and the pool has as much room beyond what is outstanding in reserve (R27). -/
def State.keepsRoom (s t : State) : Prop :=
  (∀ u, (t.window u).state = (s.window u).state ∧ (t.window u).desc = (s.window u).desc) ∧
    t.pool.length + t.totalReserve ≤ s.pool.length + s.totalReserve

theorem State.keepsRoom.refl (s : State) : s.keepsRoom s := ⟨fun _ => ⟨rfl, rfl⟩, Nat.le_refl _⟩

theorem State.keepsRoom.trans {u : State} (h : s.keepsRoom t) (h' : t.keepsRoom u) : s.keepsRoom u :=
  ⟨fun v => ⟨(h'.1 v).1.trans (h.1 v).1, (h'.1 v).2.trans (h.1 v).2⟩, Nat.le_trans h'.2 h.2⟩

/-- Each window that keeps its state, its descriptor and its number of entries keeps its outstanding reserve (R27). -/
theorem State.keepsRoom_of_inUse (hw : ∀ u, (t.window u).state = (s.window u).state ∧ (t.window u).desc = (s.window u).desc)
    (hu : ∀ u, t.inUse u = s.inUse u) (hp : t.pool.length = s.pool.length) : s.keepsRoom t := by
  refine ⟨hw, Nat.le_of_eq (congrArg₂ _ hp (congrArg List.sum (List.map_congr_left fun u _ => ?_)))⟩
  obtain ⟨hst, hdesc⟩ := hw u
  rw [State.outstandingReserve, State.outstandingReserve, hst, hdesc, hu]

/-- A free gives as many entries as it can add to the outstanding reserves (R27, R39). -/
theorem State.keepsRoom_freeEntries (s : State) (p : Entry → Bool) : s.keepsRoom (s.freeEntries p) := by
  refine ⟨fun u => by simp, ?_⟩
  have freed : ∀ u, (s.freeEntries p).outstandingReserve u ≤ s.outstandingReserve u + s.pool.countP fun e => p e && e.window == u :=
    fun u => State.outstandingReserve_le (by simp) (Nat.le_of_eq (s.freeEntries_inUse p u).symm)
  have total := Finset.sum_le_sum fun u (_ : u ∈ Finset.univ) => freed u
  rw [Finset.sum_add_distrib, sum_countP_window] at total
  have left : (s.freeEntries p).pool.length + s.pool.countP p = s.pool.length := by
    rw [State.freeEntries_pool, ← List.countP_eq_length_filter, List.length_eq_countP_add_countP p, Nat.add_comm]
    simp
  rw [State.totalReserve_eq, State.totalReserve_eq]
  omega

theorem FrameOutcome.store_keepsRoom (o : FrameOutcome) (s : State) (w : WindowId) : s.keepsRoom (o.store s w) := by
  cases o with
  | idle | slip | lateCarry => exact .refl s
  | lateDiscard => exact s.keepsRoom_freeEntries _
  | commit =>
    refine State.keepsRoom_of_inUse (fun _ => ⟨rfl, rfl⟩) (fun u => ?_) (List.length_map _)
    obtain ⟨huse, -, hpool, -⟩ := s.commitFrame_keys w 0 u
    rw [← huse, State.inUse, State.inUse, hpool]
    rfl

theorem State.keepsRoom_updWindow {f : Window → Window}
    (hf : (f (s.window w)).state = (s.window w).state ∧ (f (s.window w)).desc = (s.window w).desc) : s.keepsRoom (s.updWindow w f) := by
  refine State.keepsRoom_of_inUse (fun u => ?_) (fun _ => rfl) rfl
  rw [State.updWindow_window]
  split
  · next h => exact h ▸ hf
  · exact ⟨rfl, rfl⟩

theorem State.keepsRoom_noted (s : State) (w : WindowId) (k : Option NotifKind) : s.keepsRoom (s.noted w k) := by
  rw [State.noted_eq]
  exact .refl s

/-- A window that has as many entries as before passes the allocation test as before (R28). -/
theorem State.keepsRoom.allocOk (h : s.keepsRoom t) (hu : t.inUse w = s.inUse w) (ha : s.allocOk w = true) : t.allocOk w = true := by
  obtain ⟨hw, hroom⟩ := h
  have h512 : Config.poolSize = 512 := rfl
  simp only [State.allocOk, (hw w).2, hu, State.freeCount, h512, Bool.and_eq_true, Bool.or_eq_true, decide_eq_true_eq] at ha ⊢
  omega

end Sys2Proof.Machine
end

section
/-! SUPPORT. The evaluation of all windows at a beat, as one window and as the drain queue see it (R86, R88, R90, R93). -/

namespace Sys2Proof.Machine

variable {s t : State} {w : WindowId}

/-! ### One window -/

/-- The run when the countdown of window `w` has gone on (R89). -/
def BeatRun.counted (x : BeatRun) (w : WindowId) : BeatRun := { x with state := x.state.updWindow w Window.countDown }

theorem Window.countDown_notes (v : Window) (o : FrameOutcome) : o.notes v.countDown = o.notes v := by
  unfold Window.countDown
  split <;> cases o <;> rfl

/-- Only a frame whose committed set is empty commits (R90). -/
theorem State.judge_commit (h : s.judge w = .commit) : s.committedSet w = [] := by
  unfold State.judge at h
  split at h
  · cases h
  · split at h
    · split at h
      · next hc => simpa using hc
      · cases h
    · split at h <;> cases h

/-- The frame is judged by the window's mode, policy, ready flag and entries, not by its countdown (R90). -/
theorem State.judge_counted (s : State) (w : WindowId) : (s.updWindow w Window.countDown).judge w = s.judge w := by
  have hd : (s.window w).countDown.desc = (s.window w).desc ∧ (s.window w).countDown.ready = (s.window w).ready := by
    unfold Window.countDown
    split <;> exact ⟨rfl, rfl⟩
  have hp : (s.updWindow w Window.countDown).pendingList w = s.pendingList w := rfl
  have hc : (s.updWindow w Window.countDown).committedSet w = s.committedSet w := rfl
  unfold State.judge State.frameIdle State.frameReady
  rw [State.updWindow_self, hd.1, hd.2, hp, hc]

/-- An ACTIVE window counts down, and when due its frame is given its outcome (R89, R90). -/
theorem BeatRun.evalWindow_active (b : BitVec 32) {x : BeatRun} (h : (x.state.window w).state = .active) :
    BeatRun.evalWindow b x w =
      if (x.state.window w).countDown.due then (x.counted w).settle w b (x.state.judge w) else x.counted w := by
  unfold BeatRun.evalWindow
  dsimp only
  rw [h, State.updWindow_self, State.judge_counted]
  rfl

/-- An OFF or FAULTED window is left unchanged (R86, R99). -/
theorem BeatRun.evalWindow_still (b : BitVec 32) {x : BeatRun} (h : (x.state.window w).state = .off ∨ (x.state.window w).state = .faulted) :
    BeatRun.evalWindow b x w = x := by
  unfold BeatRun.evalWindow
  dsimp only
  rcases h with h | h <;> rw [h]

/-- The evaluation of a window changes nothing, counts down, or gives its frame an outcome (R86, R89, R90, R98, R99). -/
theorem BeatRun.evalWindow_outcome (b : BitVec 32) (x : BeatRun) (w : WindowId) :
    BeatRun.evalWindow b x w = x ∨ BeatRun.evalWindow b x w = x.counted w ∨
      ∃ z o, (z = x ∨ z = x.counted w) ∧ (o = .commit → z.state.committedSet w = []) ∧ BeatRun.evalWindow b x w = z.settle w b o := by
  rcases hst : (x.state.window w).state with _ | _ | _ | _
  · exact .inl (BeatRun.evalWindow_still b (.inl hst))
  · rw [BeatRun.evalWindow_active b hst]
    split
    · exact .inr (.inr ⟨x.counted w, x.state.judge w, .inr rfl, fun h => (State.judge_commit h : x.state.committedSet w = []), rfl⟩)
    · exact .inr (.inl rfl)
  · unfold BeatRun.evalWindow
    dsimp only
    rw [hst]
    rcases (x.state.window w).closeMode with _ | _ | _
    · exact .inl rfl
    · dsimp only
      split
      · exact .inl rfl
      · split
        · next hc => exact .inr (.inr ⟨_, _, .inl rfl, fun _ => by simpa using hc, rfl⟩)
        · split
          · exact .inr (.inr ⟨x.counted w, .slip, .inr rfl, nofun, rfl⟩)
          · exact .inr (.inl rfl)
    · exact .inl rfl
  · exact .inl (BeatRun.evalWindow_still b (.inr hst))

/-! ### What every evaluation keeps -/

/-- From `x` to `y` the run has gone on: what it has noted stays noted, and nothing but windows, store and notifications has changed. -/
structure BeatRun.Leads (x y : BeatRun) : Prop where
  frames : x.state.sameButFrames y.state
  room : x.state.keepsRoom y.state
  added : x.added = true → y.added = true
  committed : x.committed ⊆ y.committed

theorem State.sameButFrames.trans {u : State} (h : s.sameButFrames t) (h' : t.sameButFrames u) : s.sameButFrames u := by
  unfold State.sameButFrames at h h' ⊢
  rw [h', h]

theorem BeatRun.Leads.refl (x : BeatRun) : x.Leads x := ⟨rfl, .refl _, id, fun _ h => h⟩

theorem BeatRun.Leads.trans {x y z : BeatRun} (h : x.Leads y) (h' : y.Leads z) : x.Leads z :=
  ⟨h.frames.trans h'.frames, h.room.trans h'.room, h'.added ∘ h.added, fun _ hu => h'.committed (h.committed hu)⟩

theorem BeatRun.counted_leads (x : BeatRun) (w : WindowId) : x.Leads (x.counted w) := by
  refine ⟨rfl, State.keepsRoom_updWindow ?_, id, fun _ h => h⟩
  unfold Window.countDown
  split <;> exact ⟨rfl, rfl⟩

theorem BeatRun.settle_leads (x : BeatRun) (w : WindowId) (b : BitVec 32) (o : FrameOutcome) : x.Leads (x.settle w b o) where
  frames := by
    rw [BeatRun.settle_state, State.noted_eq]
    cases o <;> rfl
  room := by
    rw [BeatRun.settle_state]
    exact ((o.store_keepsRoom _ w).trans (State.keepsRoom_updWindow (o.record_state b _))).trans (State.keepsRoom_noted _ w _)
  added h := by cases o <;> simp [BeatRun.settle, h]
  committed u h := by cases o <;> simp [BeatRun.settle, h]

theorem BeatRun.evalWindow_leads (b : BitVec 32) (x : BeatRun) (w : WindowId) : x.Leads (BeatRun.evalWindow b x w) := by
  rcases BeatRun.evalWindow_outcome b x w with e | e | ⟨z, o, rfl | rfl, -, e⟩ <;> rw [e]
  · exact .refl x
  · exact x.counted_leads w
  · exact z.settle_leads w b o
  · exact (x.counted_leads w).trans (BeatRun.settle_leads _ w b o)

theorem BeatRun.foldl_leads (b : BitVec 32) (l : List WindowId) (x : BeatRun) : x.Leads (l.foldl (BeatRun.evalWindow b) x) := by
  induction l generalizing x with
  | nil => exact .refl x
  | cons w l ih => exact (BeatRun.evalWindow_leads b x w).trans (ih _)

/-! ### All windows -/

/-- The evaluation of the windows at the beat that the selector's beat number names (R86). -/
def State.beatRun (s : State) : BeatRun := windowIds.foldl (BeatRun.evalWindow s.sel.beatNumber) ⟨s, [], false, false⟩

theorem State.evalBeat_eq (hb : s.port.busy = false) :
    s.evalBeat = s.beatRun.state.closeEvent s.beatRun.added false s.beatRun.triggers := if_neg (by simp [hb])

theorem State.beatRun_leads (s : State) : BeatRun.Leads ⟨s, [], false, false⟩ s.beatRun := BeatRun.foldl_leads _ _ _

/-- The evaluation leaves the requests, the two ports and the selector. -/
theorem State.beatRun_rest (s : State) :
    s.beatRun.state.holdQueue = s.holdQueue ∧ s.beatRun.state.inflight = s.inflight ∧ s.beatRun.state.outstanding = s.outstanding ∧
      s.beatRun.state.issued = s.issued ∧ s.beatRun.state.port = s.port := by
  have hf := s.beatRun_leads.frames
  unfold State.sameButFrames at hf
  rw [hf]
  exact ⟨rfl, rfl, rfl, rfl, rfl⟩

theorem windowIds_split (w : WindowId) : ∃ pre post, windowIds = pre ++ w :: post ∧ w ∉ pre ∧ w ∉ post := by
  obtain ⟨pre, post, h⟩ := List.append_of_mem (List.mem_finRange w)
  have hn : (pre ++ w :: post).Nodup := h ▸ List.nodup_finRange 16
  rw [List.nodup_middle, List.nodup_cons, List.mem_append, not_or] at hn
  exact ⟨pre, post, h, hn.1⟩

/-- The evaluation comes to window `w` once, finding it and its entries as they were, and leaves them so after it (R86). -/
theorem State.beatRun_at (s : State) (w : WindowId) :
    ∃ x : BeatRun, s.sameAt x.state w ∧ (BeatRun.evalWindow s.sel.beatNumber x w).state.sameAt s.beatRun.state w ∧
      (BeatRun.evalWindow s.sel.beatNumber x w).Leads s.beatRun := by
  obtain ⟨pre, post, h, hpre, hpost⟩ := windowIds_split w
  refine ⟨pre.foldl (BeatRun.evalWindow s.sel.beatNumber) ⟨s, [], false, false⟩, BeatRun.foldl_other _ pre hpre _, ?_⟩
  rw [State.beatRun, h, List.foldl_append, List.foldl_cons]
  exact ⟨BeatRun.foldl_other _ post hpost _, BeatRun.foldl_leads _ _ _⟩

/-- The evaluation of windows that are OFF or FAULTED changes nothing (R86, R99). -/
theorem BeatRun.foldl_still (b : BitVec 32) (l : List WindowId) (x : BeatRun)
    (h : ∀ u ∈ l, (x.state.window u).state = .off ∨ (x.state.window u).state = .faulted) : l.foldl (BeatRun.evalWindow b) x = x := by
  induction l with
  | nil => rfl
  | cons u l ih =>
    rw [List.foldl_cons, BeatRun.evalWindow_still b (h u List.mem_cons_self)]
    exact ih fun v hv => h v (List.mem_cons_of_mem _ hv)

/-- Where no other window has a frame the evaluation is that of window `w` (R99). -/
theorem State.beatRun_alone (h : ∀ u, u ≠ w → (s.window u).state = .off ∨ (s.window u).state = .faulted) :
    s.beatRun = BeatRun.evalWindow s.sel.beatNumber ⟨s, [], false, false⟩ w := by
  obtain ⟨pre, post, hsplit, hpre, hpost⟩ := windowIds_split w
  rw [State.beatRun, hsplit, List.foldl_append, List.foldl_cons,
    BeatRun.foldl_still _ pre ⟨s, [], false, false⟩ fun u hu => h u fun e => hpre (e ▸ hu)]
  refine BeatRun.foldl_still _ post _ fun u hu => ?_
  have hne : u ≠ w := fun e => hpost (e ▸ hu)
  have hsame := (BeatRun.evalWindow_other s.sel.beatNumber ⟨s, [], false, false⟩ hne).1
  rw [hsame]
  exact h u hne

/-! ### The drain queue -/

/-- The lines that the frame of window `u` adds to the drain queue, if it committed from `s` to `t` (R93). -/
def State.frameCommitted (s t : State) (u : WindowId) : List DrainRef :=
  if (t.window u).commitCount = (s.window u).commitCount then []
  else (s.pendingLines u).map fun l => { window := u, line := l }

theorem State.pendingList_eq (s : State) (w : WindowId) : s.pendingList w = (s.ownedBy w).filter (·.isPending) := by
  simp [State.pendingList, State.ownedBy, List.filter_filter, Bool.and_comm]

theorem State.sameAt.lines (h : s.sameAt t w) : t.pendingLines w = s.pendingLines w ∧ t.committedLines w = s.committedLines w := by
  refine ⟨?_, congrArg _ h.committedSet⟩
  rw [State.pendingLines, State.pendingLines, State.pendingList_eq, State.pendingList_eq, h.2]

theorem Window.countDown_commitCount (v : Window) : v.countDown.commitCount = v.commitCount := by
  unfold Window.countDown
  split <;> rfl

/-- An outcome adds to the drain queue the lines of a frame that commits (R92, R93). -/
theorem BeatRun.settle_drainQueue (x : BeatRun) (w : WindowId) (b : BitVec 32) (o : FrameOutcome) :
    (x.settle w b o).state.drainQueue = x.state.drainQueue ++ x.state.frameCommitted (x.settle w b o).state w := by
  have hcount : ((x.settle w b o).state.window w).commitCount =
      if o = .commit then (x.state.window w).commitCount + 1 else (x.state.window w).commitCount := by
    rw [BeatRun.settle_state, State.noted_window, State.updWindow_self, FrameOutcome.store_window, o.record_commitCount]
  have hqueue : (x.settle w b o).state.drainQueue = (o.store x.state w).drainQueue := by
    rw [BeatRun.settle_state, State.noted_eq]
    rfl
  rw [hqueue, o.store_drainQueue, State.frameCommitted, hcount]
  by_cases ho : o = .commit <;> simp [ho]

theorem BeatRun.evalWindow_drainQueue (b : BitVec 32) (x : BeatRun) (w : WindowId) :
    (BeatRun.evalWindow b x w).state.drainQueue =
      x.state.drainQueue ++ x.state.frameCommitted (BeatRun.evalWindow b x w).state w := by
  have hcount : ((x.counted w).state.window w).commitCount = (x.state.window w).commitCount := by
    rw [BeatRun.counted, State.updWindow_self, Window.countDown_commitCount]
  have still : ∀ y : BeatRun, y.state.drainQueue = x.state.drainQueue → (y.state.window w).commitCount = (x.state.window w).commitCount →
      y.state.drainQueue = x.state.drainQueue ++ x.state.frameCommitted y.state w := fun y hq hc => by
    rw [State.frameCommitted, if_pos hc, List.append_nil, hq]
  rcases BeatRun.evalWindow_outcome b x w with e | e | ⟨z, o, rfl | rfl, -, e⟩ <;> rw [e]
  · exact still x rfl rfl
  · exact still _ rfl hcount
  · exact z.settle_drainQueue w b o
  · rw [BeatRun.settle_drainQueue, State.frameCommitted, State.frameCommitted, hcount]
    rfl

/-- The lines of the frames that commit join the tail of the drain queue, window by window (R93). -/
theorem BeatRun.foldl_drainQueue (b : BitVec 32) (l : List WindowId) (hl : l.Nodup) (x : BeatRun) :
    (l.foldl (BeatRun.evalWindow b) x).state.drainQueue =
      x.state.drainQueue ++ l.flatMap (x.state.frameCommitted (l.foldl (BeatRun.evalWindow b) x).state) := by
  induction l generalizing x with
  | nil => simp
  | cons u l ih =>
    obtain ⟨hu, hl⟩ := List.nodup_cons.mp hl
    have hlast := (BeatRun.foldl_other b l hu (BeatRun.evalWindow b x u)).1
    have hfirst : x.state.frameCommitted (l.foldl (BeatRun.evalWindow b) (BeatRun.evalWindow b x u)).state u =
        x.state.frameCommitted (BeatRun.evalWindow b x u).state u := by
      rw [State.frameCommitted, hlast]
      rfl
    have hrest : ∀ v ∈ l, ∀ t, (BeatRun.evalWindow b x u).state.frameCommitted t v = x.state.frameCommitted t v := fun v hv t => by
      have hsame := BeatRun.evalWindow_other b x (w := v) (u := u) fun e => hu (e ▸ hv)
      rw [State.frameCommitted, State.frameCommitted, hsame.1, hsame.lines.1]
    rw [List.foldl_cons, ih hl, BeatRun.evalWindow_drainQueue, List.flatMap_cons, List.append_assoc, hfirst,
      List.flatMap_congr fun v hv => hrest v hv _]

theorem State.framesCommitted_eq (s t : State) : s.framesCommitted t = windowIds.flatMap (s.frameCommitted t) := rfl

theorem State.beatRun_drainQueue (s : State) : s.beatRun.state.drainQueue = s.drainQueue ++ s.framesCommitted s.beatRun.state := by
  rw [State.framesCommitted_eq, State.beatRun, BeatRun.foldl_drainQueue _ windowIds (List.nodup_finRange 16)]

end Sys2Proof.Machine
end

section
/-! What a delivered beat does to an ACTIVE window, and the held write that a commit lets in (R74 to R76, R88 to R97, R110). -/

namespace Sys2Proof.Machine

variable {s t : State} {w : WindowId} {x : Source}

/-! ### The frame of one window -/

/-- From `s` to `t` window `w` takes the record `v`, its committed set and its pending list have the lines `cs` and `ps`, and the event `k`
is recorded for it, if any. -/
structure State.FrameBecomes (s t : State) (w : WindowId) (v : Window) (cs ps : List Line) (k : Option NotifKind) : Prop where
  window : t.window w = v
  committed : t.committedLines w = cs
  pending : t.pendingLines w = ps
  notif : t.notif = (s.noted w k).notif

/-- What is recorded depends on the notification unit and the beat number alone (R170). -/
theorem State.noted_notif_congr (hn : t.notif = s.notif) (hb : t.sel.beatNumber = s.sel.beatNumber) (w : WindowId) (k : Option NotifKind) :
    (t.noted w k).notif = (s.noted w k).notif := by
  cases k with
  | none => exact hn
  | some k => rw [State.noted, State.noted, State.notify_notif, State.notify_notif, hn, hb]

/-- The frame of an ACTIVE window that is not due (R89). -/
theorem BeatRun.evalWindow_counts (b : BitVec 32) {y : BeatRun} (h : (y.state.window w).state = .active)
    (hd : (y.state.window w).countDown.due = false) :
    y.state.FrameBecomes (BeatRun.evalWindow b y w).state w (y.state.window w).countDown (y.state.committedLines w)
      (y.state.pendingLines w) none := by
  rw [BeatRun.evalWindow_active b h, if_neg (by simp [hd])]
  exact ⟨State.updWindow_self _ _ _, rfl, rfl, rfl⟩

/-- The frame of an ACTIVE window that is due (R90). -/
theorem BeatRun.evalWindow_settles (b : BitVec 32) {y : BeatRun} (h : (y.state.window w).state = .active)
    (hd : (y.state.window w).countDown.due = true) {o : FrameOutcome} (ho : y.state.judge w = o) :
    y.state.FrameBecomes (BeatRun.evalWindow b y w).state w (o.record b (y.state.window w).countDown)
      (if o = .commit then y.state.pendingLines w else y.state.committedLines w)
      (if o = .commit ∨ o = .lateDiscard then [] else y.state.pendingLines w) (o.notes (y.state.window w)) := by
  have hwin : (y.counted w).state.window w = (y.state.window w).countDown := State.updWindow_self _ _ _
  have hnone : o = .commit → (y.counted w).state.committedSet w = [] := fun e => State.judge_commit (s := y.state) (ho.trans e)
  rw [BeatRun.evalWindow_active b h, if_pos hd, ho, BeatRun.settle_state, hwin, Window.countDown_notes]
  refine ⟨?_, ?_, ?_, ?_⟩
  · rw [State.noted_window, State.updWindow_self, FrameOutcome.store_window, hwin]
  · rw [State.noted_eq]
    exact o.store_committedLines _ w hnone
  · rw [State.noted_eq]
    exact o.store_pendingLines _ w
  · refine State.noted_notif_congr ?_ ?_ w _ <;> cases o <;> rfl

/-! ### The outcome of a due beat (R90) -/

theorem State.sameAt.judge (h : s.sameAt t w) : t.judge w = s.judge w := by
  have hp : t.pendingList w = s.pendingList w := by rw [State.pendingList_eq, State.pendingList_eq, h.2]
  unfold State.judge State.frameIdle State.frameReady
  rw [h.1, hp, h.committedSet]

theorem State.judge_idle (hp : s.pendingLines w = []) (hr : (s.window w).ready = false) : s.judge w = .idle :=
  if_pos (by simp [State.frameIdle, State.pendingLines_nil.mp hp, hr])

/-- The frame is ready (R6). -/
theorem State.frameReady_iff :
    s.frameReady w = true ↔
      ((s.window w).desc.readiness = .any ∧ s.pendingLines w ≠ []) ∨ ((s.window w).desc.readiness ≠ .any ∧ (s.window w).ready = true) := by
  unfold State.frameReady
  cases (s.window w).desc.readiness <;> simp [State.pendingLines]

theorem State.judge_ready (h : s.frameReady w = true) :
    s.judge w = if s.committedLines w = [] then .commit else .slip := by
  have hidle : ¬ s.frameIdle w = true := by
    rcases State.frameReady_iff.mp h with ⟨-, hp⟩ | ⟨-, hr⟩
    · simpa [State.frameIdle, State.pendingLines_nil] using fun e => absurd e (mt State.pendingLines_nil.mpr hp)
    · simp [State.frameIdle, hr]
  unfold State.judge
  rw [if_neg hidle, if_pos h]
  simp only [State.committedLines_nil, List.isEmpty_iff]

theorem State.judge_late (hp : s.pendingLines w ≠ []) (hr : (s.window w).ready = false) (hd : (s.window w).desc.readiness ≠ .any) :
    s.judge w = if (s.window w).desc.late = .discard then .lateDiscard else .lateCarry := by
  have hidle : ¬ s.frameIdle w = true := by
    simpa [State.frameIdle, hr] using mt State.pendingLines_nil.mpr hp
  have hready : ¬ s.frameReady w = true := by simp [State.frameReady_iff, hr, hd]
  unfold State.judge
  rw [if_neg hidle, if_neg hready]
  cases (s.window w).desc.late <;> rfl

/-- An ACTIVE window whose countdown ends is due, with countdown 0 or as it stood (R89). -/
theorem Window.countDown_due {v : Window} (h : v.due = true ∨ v.countdown = 1) :
    v.countDown = { v with countdown := if v.due then v.countdown else 0, due := true } := by
  obtain ⟨⟩ := v
  unfold Window.countDown
  rcases h with h | h
  · simp_all
  · simp only at h
    subst h
    split <;> simp_all

theorem Window.countDown_notDue {v : Window} (hd : v.due = false) (h : 2 ≤ v.countdown) :
    v.countDown = { v with countdown := v.countdown - 1 } := by
  have hne : (v.countdown - 1 == 0) = false := by simp; omega
  unfold Window.countDown
  rw [if_neg (by simp [hd]), hne, ← hd]

/-! ### The whole beat -/

/-- With nothing held, the close of the event leaves windows, pending lists and notifications. -/
theorem State.closeEvent_frames (h : s.holdQueue = []) (d : Bool) (trig : List Nat) (w : WindowId) :
    (s.closeEvent d false trig).window w = s.window w ∧ (s.closeEvent d false trig).pendingLines w = s.pendingLines w ∧
      (s.closeEvent d false trig).notif = s.notif := by
  rw [State.closeEvent_noneHeld _ _ _ _ h]
  cases d <;> simp [State.pendingLines]

/-- What the evaluation makes of window `w` is what the beat makes of it, but for the re-examination of held requests (R86, R88). -/
theorem State.evalBeat_frame (hb : s.port.busy = false) {v : Window} {cs ps : List Line} {k : Option NotifKind}
    (hev : ∀ y : BeatRun, s.sameAt y.state w →
      y.state.FrameBecomes (BeatRun.evalWindow s.sel.beatNumber y w).state w v cs ps k) :
    s.windowBecomes s.evalBeat w v ∧ s.evalBeat.committedLines w = cs ∧ (s.holdQueue = [] → s.evalBeat.pendingLines w = ps) ∧
      (s.holdQueue = [] → (∀ u, u ≠ w → (s.window u).state = .off ∨ (s.window u).state = .faulted) →
        s.evalBeat.notif = (s.noted w k).notif) := by
  obtain ⟨y, hy, hsame, -⟩ := s.beatRun_at w
  have hf := hev y hy
  obtain ⟨hlp, hlc⟩ := hsame.lines
  have hwin : s.beatRun.state.window w = v := hsame.1.trans hf.window
  have hhold := s.beatRun_rest.1
  rw [State.evalBeat_eq hb]
  refine ⟨⟨?_, fun hq => ?_⟩, ?_, fun hq => ?_, fun hq halone => ?_⟩
  · rw [State.closeEvent_scheduled, hwin]
  · rw [(State.closeEvent_frames (hhold.trans hq) _ _ w).1, hwin]
  · rw [State.closeEvent_committedLines, hlc, hf.committed]
  · rw [(State.closeEvent_frames (hhold.trans hq) _ _ w).2.1, hlp, hf.pending]
  · rw [(State.closeEvent_frames (hhold.trans hq) _ _ w).2.2, State.beatRun_alone halone]
    exact (hev ⟨s, [], false, false⟩ ⟨rfl, rfl⟩).notif

/-- The beat of source `x` takes `s` to `t`. -/
def State.beatGives (s : State) (x : Source) (t : State) : Prop :=
  s.sel.delivers x s.timeBase ∧ s.port.busy = false ∧
    ∃ a b k p, k.beatNumber = s.sel.beatNumber + 1 ∧ t = { (s.beatAt x a b k).evalBeat with port := p }

theorem exec_beatGives {c : Instr} (h : s.beatComesBy c x) : ∃ t, exec c s = .next t ∧ s.beatGives x t := by
  obtain ⟨hd, hb, a, b, k, p, hk, he⟩ := exec_beat h
  exact ⟨_, he, hd, hb, a, b, k, p, hk, rfl⟩

theorem State.beatGives.beatNumber (h : s.beatGives x t) : t.sel.beatNumber = s.sel.beatNumber + 1 := by
  obtain ⟨-, -, a, b, k, p, hk, rfl⟩ := h
  exact (congrArg Selector.beatNumber (State.evalBeat_sel _)).trans hk

theorem State.beatGives.frame (h : s.beatGives x t) {v : Window} {cs ps : List Line} {k : Option NotifKind}
    (hev : ∀ y : BeatRun, s.sameAt y.state w →
      y.state.FrameBecomes (BeatRun.evalWindow (s.sel.beatNumber + 1) y w).state w v cs ps k) :
    s.windowBecomes t w v ∧ t.committedLines w = cs ∧ (s.holdQueue = [] → t.pendingLines w = ps) ∧ s.beatRecords t x w k := by
  obtain ⟨hd, hb, a, b, k', p, hk, rfl⟩ := h
  obtain ⟨hwin, hc, hp, hn⟩ := State.evalBeat_frame (s := s.beatAt x a b k') (w := w) hb (v := v) (cs := cs) (ps := ps) (k := k)
    (by rw [show (s.beatAt x a b k').sel.beatNumber = s.sel.beatNumber + 1 from hk]; exact hev)
  have hnoted : ((s.beatAt x a b k').noted w k).notif = ((s.afterBeat x).noted w k).notif :=
    State.noted_notif_congr (s := s.afterBeat x) (t := s.beatAt x a b k') rfl (hk.trans (State.afterBeat_beatNumber hd).symm) w k
  rw [hnoted] at hn
  generalize (s.beatAt x a b k').evalBeat = u at hwin hc hp hn ⊢
  refine ⟨hwin, hc, hp, fun hq halone => (hn hq halone).trans ?_⟩
  cases k <;> rfl

/-- An ACTIVE window that is not due at the beat (R89). -/
theorem State.beatGives.counts (h : s.beatGives x t) (hst : (s.window w).state = .active) (hd : (s.window w).countDown.due = false) :
    s.windowBecomes t w (s.window w).countDown ∧ t.committedLines w = s.committedLines w ∧
      (s.holdQueue = [] → t.pendingLines w = s.pendingLines w) ∧ s.beatRecords t x w none := by
  refine h.frame fun y hy => ?_
  obtain ⟨hp, hc⟩ := hy.lines
  have := BeatRun.evalWindow_counts (s.sel.beatNumber + 1) (y := y) (w := w) (by rw [hy.1]; exact hst) (by rw [hy.1]; exact hd)
  rwa [hp, hc, hy.1] at this

/-- An ACTIVE window whose frame is given the outcome `o` at the beat (R90). -/
theorem State.beatGives.settles (h : s.beatGives x t) (hst : (s.window w).state = .active) (hd : (s.window w).countDown.due = true)
    {o : FrameOutcome} (ho : s.judge w = o) :
    s.windowBecomes t w (o.record (s.sel.beatNumber + 1) (s.window w).countDown) ∧
      t.committedLines w = (if o = .commit then s.pendingLines w else s.committedLines w) ∧
      (s.holdQueue = [] → t.pendingLines w = if o = .commit ∨ o = .lateDiscard then [] else s.pendingLines w) ∧
      s.beatRecords t x w (o.notes (s.window w)) := by
  refine h.frame fun y hy => ?_
  obtain ⟨hp, hc⟩ := hy.lines
  have := BeatRun.evalWindow_settles (s.sel.beatNumber + 1) (y := y) (w := w) (by rw [hy.1]; exact hst) (by rw [hy.1]; exact hd)
    (hy.judge.trans ho)
  rwa [hp, hc, hy.1] at this

/-! ### A commit: the drain queue and the issue rule (R88, R93, R110) -/

/-- The run notes the window that commits, and that its lines have joined the drain queue (R88). -/
theorem State.beatRun_commits (hst : (s.window w).state = .active) (hd : (s.window w).countDown.due = true) (ho : s.judge w = .commit) :
    w ∈ s.beatRun.committed ∧ (s.pendingLines w ≠ [] → s.beatRun.added = true) := by
  obtain ⟨y, hy, -, hlead⟩ := s.beatRun_at w
  have hsettle : BeatRun.evalWindow s.sel.beatNumber y w = (y.counted w).settle w s.sel.beatNumber .commit := by
    rw [BeatRun.evalWindow_active _ (by rw [hy.1]; exact hst), hy.1, if_pos hd, hy.judge, ho]
  rw [hsettle] at hlead
  refine ⟨hlead.committed (by simp [BeatRun.settle]), fun hp => hlead.added ?_⟩
  have hpend : (y.counted w).state.pendingList w ≠ [] := by
    rw [← hy.lines.1] at hp
    exact fun e => hp (State.pendingLines_nil.mpr e)
  simpa [BeatRun.settle] using .inr hpend

theorem State.framesCommitted_congr {u : State} (h : ∀ v, (u.window v).commitCount = (t.window v).commitCount) :
    s.framesCommitted u = s.framesCommitted t := by
  rw [State.framesCommitted_eq, State.framesCommitted_eq]
  refine List.flatMap_congr fun v _ => ?_
  rw [State.frameCommitted, State.frameCommitted, h]

/-- A beat that adds to the drain queue ends with the issue rule (R88, R110). -/
theorem State.evalBeat_drains (hb : s.port.busy = false) (ha : s.beatRun.added = true) :
    s.evalBeat.drainSettled ∧ (s.holdQueue = [] → s.issuesFrom s.evalBeat (s.drainQueue ++ s.framesCommitted s.evalBeat)) := by
  obtain ⟨hhold, -, hout, hiss, hport⟩ := s.beatRun_rest
  have hbusy : s.beatRun.state.port.busy = false := by rw [hport]; exact hb
  rw [State.evalBeat_eq hb, ha]
  refine ⟨State.closeEvent_settled hbusy _ _, fun hq => ?_⟩
  rw [State.closeEvent_drains (hhold.trans hq), State.framesCommitted_congr (t := s.beatRun.state) fun v => by rw [State.drainIssue_window],
    ← State.beatRun_drainQueue]
  exact State.drainIssue_issuesFrom hbusy hout.symm hiss.symm

/-! ### The oldest held write, let in by a commit (R74 to R76, R88) -/

/-- Steering leaves the head of a pending list in its place (R24). -/
theorem pendingHead_keeps (w : WindowId) (l : Line) : SteeringKeeps fun t => (t.pendingLines w).head? = some l where
  notify _ _ _ _ _ h := h
  update _ _ _ _ h := h
  allocate t u m _ _ _ h := by
    rw [State.pendingLines, State.pendingList, State.allocate_pool, List.filter_append, List.map_append, List.head?_append]
    exact (congrArg (Option.or · _) h).trans (Option.some_or ..)
  merge t u r _ h := by
    rw [State.pendingLines_eq, t.merge_keys u r, ← State.pendingLines_eq]
    exact h

/-- A write staged into an empty frame is its first line (R24, R30). -/
theorem State.staged_pendingLines {r : Request} (h : s.pendingLines w = []) : (s.staged w r).pendingLines w = [r.line] := by
  have hnone : ¬ (s.pendingEntry w r.line).isSome = true := fun hs => by
    obtain ⟨e, he⟩ := Option.isSome_iff_exists.mp hs
    obtain ⟨hm, hp⟩ := State.pendingEntry_some he
    obtain ⟨h1, h2, h3⟩ := Entry.isPendingOf_iff.mp hp
    have : r.line ∈ s.pendingLines w := Entry.key_pendingLines.mp (List.mem_map.mpr ⟨e, hm, by rw [Entry.key, h1, h2, h3]⟩)
    rw [h] at this
    cases this
  rw [State.pendingLines_eq, State.staged_eq, State.merge_keys, State.withEntry, if_neg hnone, State.allocate_pool, List.map_append,
    List.filter_append, List.map_append, ← State.pendingLines_eq, h]
  simp [State.freshEntry, Entry.key, Entry.isPending]

/-- The first request that the passes come to, staged into an empty frame, has its line at the head of the pending list (R24, R75). -/
theorem State.closeEvent_stagesHead {h : Held} {pre q : List Held} {m met : Bool} (hq : s.holdQueue = pre ++ h :: q)
    {trig : List Nat} (hpre : ∀ g ∈ pre, g.order ∉ trig) (ht : h.order ∈ trig) (hf : s.inForce h = false)
    (hj : s.judged h = stageWrite s w h.request m met) (hroom : s.allocOk w = true) (hnil : s.pendingLines w = []) (d snt : Bool) :
    ((s.closeEvent d snt trig).pendingLines w).head? = some h.request.line := by
  rw [stageWrite_staged m met (.inr hroom)] at hj
  have hfirst : (s.reclassify h).pendingLines w = [h.request.line] := by
    have hr : s.reclassify h = release h (s.judged h) := rfl
    rw [hr, hj]
    exact State.staged_pendingLines hnil
  have hkeeps := pendingHead_keeps w h.request.line
  have samePool : ∀ t u : State, u.pool = t.pool → u.pendingLines w = t.pendingLines w := fun t u hp => by
    rw [State.pendingLines, State.pendingList, hp]
    rfl
  exact State.closeEvent_first (P := fun t => (t.pendingLines w).head? = some h.request.line)
    (fun t g hg _ => t.reclassify_keeps (hkeeps.passKeeps fun t u _ hp ht => by rw [samePool t u hp]; exact ht) g hg)
    (fun _ h => h) (fun t ht => by rw [State.pendingLines, State.drainIssue_pendingList]; exact ht)
    hq hpre ht hf (by rw [hfirst]; rfl) d snt

/-- The window as the run leaves it when its frame commits: ACTIVE, its new frame empty and not ready, with as many entries (R26, R92). -/
theorem State.beatRun_committed (hst : (s.window w).state = .active) (hd : (s.window w).countDown.due = true) (ho : s.judge w = .commit) :
    (s.beatRun.state.window w).state = .active ∧ (s.beatRun.state.window w).ready = false ∧ s.beatRun.state.pendingLines w = [] ∧
      s.beatRun.state.inUse w = s.inUse w := by
  obtain ⟨y, hy, hsame, -⟩ := s.beatRun_at w
  have hact : (y.state.window w).state = .active := by rw [hy.1]; exact hst
  have hdue : (y.state.window w).countDown.due = true := by rw [hy.1]; exact hd
  have hcommit : y.state.judge w = .commit := hy.judge.trans ho
  have hf := BeatRun.evalWindow_settles s.sel.beatNumber hact hdue hcommit
  have hwin : s.beatRun.state.window w = FrameOutcome.commit.record s.sel.beatNumber (y.state.window w).countDown :=
    hsame.1.trans hf.window
  refine ⟨?_, ?_, hsame.lines.1.trans hf.pending, ?_⟩
  · rw [hwin, (FrameOutcome.record_state _ _ _).1, Window.countDown_state, hact]
  · rw [hwin]
    rfl
  · have ofOwned : ∀ {a b : State}, a.sameAt b w → b.inUse w = a.inUse w := fun {a b} h => by
      rw [State.inUse, State.inUse, List.countP_eq_length_filter, List.countP_eq_length_filter]
      exact congrArg List.length h.2
    rw [ofOwned hsame, BeatRun.evalWindow_active _ hact, if_pos hdue, hcommit, ← ofOwned hy]
    exact ((y.counted w).state.commitFrame_keys w s.sel.beatNumber w).1

/-- The oldest held request, a producer write held FRAME_READY, finds its window's new frame empty and not ready, and is staged (R58, R76). -/
theorem State.closeEvent_letsIn {h : Held} {q : List Held} (hq : s.holdQueue = h :: q) (hp : s.portsAgree) (hr : h.reason = .frameReady)
    (hw : s.heldWrite h w) (hst : (s.window w).state = .active) (hready : (s.window w).ready = false) (hnil : s.pendingLines w = [])
    (ha : s.allocOk w = true) {trig : List Nat} (ht : h.order ∈ trig) (d snt : Bool) :
    (s.closeEvent d snt trig).hasLeft h.order ∧ ((s.closeEvent d snt trig).pendingLines w).head? = some h.line ∧
      (s.closeEvent d snt trig).answered h.order h.request.initiator (.okay []) := by
  have hwrite := hw
  obtain ⟨hwin, hline, -, -, hprod, htally⟩ := hw
  have hforce : s.inForce h = false := by simp [State.inForce, hr, hwin, hready]
  have hj : s.judged h = stageWrite s w h.request false h.exhaustionMet := by
    rw [State.judged_heldWrite hq hp.holdSorted hwrite, steerWrite_stages _ hprod hst hready (.inl htally), htally]
  obtain ⟨e, he, heo, her, -⟩ := hp.entry_of_held (hq ▸ List.mem_cons_self : h ∈ s.holdQueue)
  obtain ⟨hleft, -, hans⟩ := State.closeEvent_stages (pre := []) hq (by simp) ht hforce hj (.inr ha) ⟨e, he, heo, her⟩ d snt
  rw [hline]
  exact ⟨hleft, State.closeEvent_stagesHead (pre := []) hq (by simp) ht hforce hj ha hnil d snt, hans⟩

/-- So is the oldest held request at the beat at which the frame it waits for commits (R74, R88). -/
theorem State.evalBeat_letsIn (hb : s.port.busy = false) (hst : (s.window w).state = .active) (hd : (s.window w).countDown.due = true)
    (ho : s.judge w = .commit) {h : Held} {q : List Held} (hq : s.holdQueue = h :: q) (hp : s.portsAgree) (hr : h.reason = .frameReady)
    (hw : s.heldWrite h w) (ha : s.allocOk w = true) :
    s.evalBeat.hasLeft h.order ∧ (s.evalBeat.pendingLines w).head? = some h.line ∧
      s.evalBeat.answered h.order h.request.initiator (.okay []) := by
  obtain ⟨hact, hready, hnil, huse⟩ := State.beatRun_committed hst hd ho
  have hmem := (State.beatRun_commits hst hd ho).1
  obtain ⟨hframes, hroom, -, -⟩ := s.beatRun_leads
  rw [State.evalBeat_eq hb]
  generalize s.beatRun = y at hact hready hnil huse hmem hframes hroom ⊢
  have hq' : y.state.holdQueue = h :: q := by
    rw [hframes]
    exact hq
  have hp' : y.state.portsAgree := by
    rw [hframes]
    exact hp
  have htrig : h.order ∈ y.triggers := by
    refine List.mem_append_left _ (List.mem_flatMap.mpr ⟨w, hmem, List.mem_map_of_mem (List.mem_filter.mpr ⟨?_, ?_⟩)⟩)
    · rw [hq']
      exact List.mem_cons_self
    · simp [hw.1, hr]
  exact State.closeEvent_letsIn hq' hp' hr (hw.congr fun u => ⟨(hroom.1 u).2, by rw [(hroom.1 u).1]⟩) hact hready hnil
    (hroom.allocOk huse ha) htrig _ _

/-- What a commit of an ACTIVE window does beyond the window itself (R74 to R76, R88, R93, R110). -/
theorem State.beatGives.commits (h : s.beatGives x t) (hst : (s.window w).state = .active) (hd : (s.window w).countDown.due = true)
    (ho : s.judge w = .commit) :
    (s.pendingLines w ≠ [] →
      t.drainSettled ∧ (s.holdQueue = [] → s.issuesFrom t (s.drainQueue ++ s.framesCommitted t))) ∧
    ∀ (g : Held) (q : List Held), s.holdQueue = g :: q → s.portsAgree → g.reason = .frameReady → s.heldWrite g w →
      s.allocOk w = true →
        t.hasLeft g.order ∧ (t.pendingLines w).head? = some g.line ∧ t.answered g.order g.request.initiator (.okay []) := by
  obtain ⟨-, hb, a, b, k, p, -, rfl⟩ := h
  have hdrains : s.pendingLines w ≠ [] → _ := fun hp =>
    State.evalBeat_drains (s := s.beatAt x a b k) hb ((State.beatRun_commits (s := s.beatAt x a b k) hst hd ho).2 hp)
  have hheld := fun g q hq hp hr hw ha =>
    State.evalBeat_letsIn (s := s.beatAt x a b k) (w := w) hb hst hd ho (h := g) (q := q) hq hp hr hw ha
  generalize (s.beatAt x a b k).evalBeat = u at hdrains hheld ⊢
  exact ⟨hdrains, hheld⟩

/-- Settles O45: a window that is not due counts down (`State.beatGives.counts`), a due one is given the outcome of its frame
(`State.beatGives.settles`), and a commit goes on to the drain queue and the oldest held write (`State.beatGives.commits`). -/
theorem activeWindowsAtABeat : Obligations.ActiveWindowsAtABeat := by
  rintro s c x w v hbeat rfl hst
  obtain ⟨t, he, ht⟩ := exec_beatGives hbeat
  refine ⟨t, he, ht.beatNumber, fun hd hc => ?_, fun hdue => ?_⟩
  · have hcount := Window.countDown_notDue hd hc
    obtain ⟨hw, hcs, -, hn⟩ := ht.counts hst (by rw [hcount]; exact hd)
    exact ⟨hcount ▸ hw, hcs, hn⟩
  have hcount := Window.countDown_due hdue
  have settles := fun o (ho : s.judge w = o) => ht.settles hst (by rw [hcount]) ho
  rw [hcount] at settles
  refine ⟨fun hp hr => ?_, fun hready => ⟨fun hc => ?_, fun hc => ?_⟩, fun hp hr hmode => ?_⟩
  · obtain ⟨hw, hcs, -, hn⟩ := settles .idle (State.judge_idle hp hr)
    exact ⟨hw, hcs, hn⟩
  · have ho : s.judge w = .commit := (State.judge_ready (State.frameReady_iff.mpr hready)).trans (if_pos hc)
    obtain ⟨hw, hcs, hps, hn⟩ := settles .commit ho
    obtain ⟨hdrain, hheld⟩ := ht.commits hst (by rw [hcount]) ho
    exact ⟨hw, hcs, hps, hdrain, hn, hheld⟩
  · obtain ⟨hw, hcs, -, hn⟩ := settles .slip ((State.judge_ready (State.frameReady_iff.mpr hready)).trans (if_neg hc))
    rw [← satInc_eq]
    exact ⟨hw, hcs, hn⟩
  · have ho := State.judge_late hp hr hmode
    refine ⟨?_, fun hlate => ?_, fun hlate => ?_⟩
    · split at ho
      · exact (settles .lateDiscard ho).2.1
      · exact (settles .lateCarry ho).2.1
    · obtain ⟨hw, -, hps, hn⟩ := settles .lateDiscard (ho.trans (if_pos hlate))
      rw [← satInc_eq]
      exact ⟨hw, hps, hn⟩
    · obtain ⟨hw, -, hps, hn⟩ := settles .lateCarry (ho.trans (if_neg (by simp [hlate])))
      rw [← satInc_eq]
      exact ⟨hw, hps, hn⟩

end Sys2Proof.Machine
end

section
/-! What a delivered beat does to the windows that are not ACTIVE: those it leaves, and a CLOSING window in COMMIT mode (R86, R98, R99). -/

namespace Sys2Proof.Machine

variable {s t : State} {w : WindowId} {x : Source}

/-! ### The windows left unchanged (R86, R98, R99) -/

/-- A delivered beat has nothing to do at the window: it is OFF or FAULTED, it is CLOSING in DISCARD mode, or it is CLOSING in COMMIT mode with
nothing pending (R86, R98, R99). -/
def State.restsAtBeat (s : State) (w : WindowId) : Prop :=
  (s.window w).state = .off ∨ (s.window w).state = .faulted ∨
    ((s.window w).state = .closing ∧ (s.window w).closeMode = some .discard) ∨
    ((s.window w).state = .closing ∧ (s.window w).closeMode = some .commit ∧ s.pendingLines w = [])

theorem State.restsAtBeat.notActive (h : s.restsAtBeat w) : (s.window w).state ≠ .active := by
  rcases h with h | h | ⟨h, -⟩ | ⟨h, -⟩ <;> rw [h] <;> decide

theorem State.sameAt.restsAtBeat (h : s.sameAt t w) (hr : s.restsAtBeat w) : t.restsAtBeat w := by
  unfold State.restsAtBeat
  rw [h.1, h.lines.1]
  exact hr

/-- A CLOSING window in COMMIT mode is left while nothing is pending, makes its final commit once its committed set is empty, and until then
counts down or, when due, slips (R98). -/
theorem BeatRun.evalWindow_closing (b : BitVec 32) {y : BeatRun} (hst : (y.state.window w).state = .closing)
    (hm : (y.state.window w).closeMode = some .commit) :
    BeatRun.evalWindow b y w =
      if y.state.pendingLines w = [] then y
      else if y.state.committedLines w = [] then y.settle w b .commit
      else if (y.state.window w).countDown.due then (y.counted w).settle w b .slip
      else y.counted w := by
  unfold BeatRun.evalWindow
  dsimp only
  rw [hst, hm, State.updWindow_self]
  simp only [State.pendingLines_nil, State.committedLines_nil, List.isEmpty_iff]
  rfl

theorem BeatRun.evalWindow_rests (b : BitVec 32) {y : BeatRun} (h : y.state.restsAtBeat w) : BeatRun.evalWindow b y w = y := by
  rcases h with h | h | ⟨hst, hm⟩ | ⟨hst, hm, hp⟩
  · exact BeatRun.evalWindow_still b (.inl h)
  · exact BeatRun.evalWindow_still b (.inr h)
  · unfold BeatRun.evalWindow
    dsimp only
    rw [hst, hm]
  · rw [BeatRun.evalWindow_closing b hst hm, if_pos hp]

/-! ### The frame of a CLOSING window in COMMIT mode (R98) -/

/-- What an outcome makes of the window, of its entries and of the notifications; only a frame with its committed set empty may commit. -/
theorem BeatRun.settle_becomes (y : BeatRun) (w : WindowId) (b : BitVec 32) (o : FrameOutcome)
    (ho : o = .commit → y.state.committedSet w = []) :
    y.state.FrameBecomes (y.settle w b o).state w (o.record b (y.state.window w))
      (if o = .commit then y.state.pendingLines w else y.state.committedLines w)
      (if o = .commit ∨ o = .lateDiscard then [] else y.state.pendingLines w) (o.notes (y.state.window w)) := by
  rw [BeatRun.settle_state]
  refine ⟨?_, ?_, ?_, ?_⟩
  · rw [State.noted_window, State.updWindow_self, FrameOutcome.store_window]
  · rw [State.noted_eq]
    exact o.store_committedLines _ w ho
  · rw [State.noted_eq]
    exact o.store_pendingLines _ w
  · refine State.noted_notif_congr ?_ ?_ w _ <;> cases o <;> rfl

section Run

variable (b : BitVec 32) {y : BeatRun} (hst : (y.state.window w).state = .closing)
  (hm : (y.state.window w).closeMode = some .commit) (hp : y.state.pendingLines w ≠ [])
include hst hm hp

/-- The final commit (R98). -/
theorem BeatRun.closing_commits (hc : y.state.committedLines w = []) :
    y.state.FrameBecomes (BeatRun.evalWindow b y w).state w ((y.state.window w).committedAt b) (y.state.pendingLines w) []
      (FrameOutcome.commit.notes (y.state.window w)) := by
  rw [BeatRun.evalWindow_closing b hst hm, if_neg hp, if_pos hc]
  exact y.settle_becomes w b .commit fun _ => State.committedLines_nil.mp hc

/-- Behind its committed set the window counts down (R98). -/
theorem BeatRun.closing_counts (hc : y.state.committedLines w ≠ []) (hd : (y.state.window w).countDown.due = false) :
    y.state.FrameBecomes (BeatRun.evalWindow b y w).state w (y.state.window w).countDown (y.state.committedLines w)
      (y.state.pendingLines w) none := by
  rw [BeatRun.evalWindow_closing b hst hm, if_neg hp, if_neg hc, if_neg (by simp [hd])]
  exact ⟨State.updWindow_self _ _ _, rfl, rfl, rfl⟩

/-- When due behind its committed set the window slips (R98). -/
theorem BeatRun.closing_slips (hc : y.state.committedLines w ≠ []) (hd : (y.state.window w).countDown.due = true) :
    y.state.FrameBecomes (BeatRun.evalWindow b y w).state w (FrameOutcome.slip.record b (y.state.window w).countDown)
      (y.state.committedLines w) (y.state.pendingLines w) (FrameOutcome.slip.notes (y.state.window w)) := by
  have hwin : (y.counted w).state.window w = (y.state.window w).countDown := State.updWindow_self _ _ _
  have hslip := (y.counted w).settle_becomes w b .slip nofun
  rw [hwin, Window.countDown_notes] at hslip
  rw [BeatRun.evalWindow_closing b hst hm, if_neg hp, if_neg hc, if_pos hd]
  refine ⟨hslip.window, hslip.committed, hslip.pending, ?_⟩
  exact hslip.notif.trans (State.noted_notif_congr (s := y.state) (t := (y.counted w).state) rfl rfl w _)

end Run

/-! ### The whole beat -/

/-- The close of the beat's event stages nothing into a window that is not ACTIVE: what the evaluation makes of it stands (R57, R88). -/
theorem State.evalBeat_notActive (hb : s.port.busy = false) (hst : (s.window w).state ≠ .active) :
    s.evalBeat.window w = s.beatRun.state.window w ∧ s.evalBeat.pendingLines w = s.beatRun.state.pendingLines w := by
  have hrun : (s.beatRun.state.window w).state ≠ .active := by
    rw [(s.beatRun_leads.room.1 w).1]
    exact hst
  rw [State.evalBeat_eq hb, (State.closeEvent_window _ _ _ _ w).2 hrun, State.pendingLines, State.closeEvent_pendingList hrun]
  exact ⟨rfl, rfl⟩

/-- What the evaluation makes of a window that is not ACTIVE is what the beat makes of it, whatever is held (R86, R88). -/
theorem State.beatGives.frame_notActive (h : s.beatGives x t) (hst : (s.window w).state ≠ .active) {v : Window} {cs ps : List Line}
    {k : Option NotifKind}
    (hev : ∀ y : BeatRun, s.sameAt y.state w →
      y.state.FrameBecomes (BeatRun.evalWindow (s.sel.beatNumber + 1) y w).state w v cs ps k) :
    t.window w = v ∧ t.committedLines w = cs ∧ t.pendingLines w = ps ∧ s.beatRecords t x w k := by
  obtain ⟨-, hcs, -, hrec⟩ := h.frame hev
  obtain ⟨-, hb, a, b, k', p, hk, rfl⟩ := h
  obtain ⟨y, hy, hsame, -⟩ := (s.beatAt x a b k').beatRun_at w
  have hf := hev y hy
  rw [← hk] at hf
  obtain ⟨hwin, hps⟩ := State.evalBeat_notActive (s := s.beatAt x a b k') hb hst
  exact ⟨hwin.trans (hsame.1.trans hf.window), hcs, hps.trans (hsame.lines.1.trans hf.pending), hrec⟩

/-- A window at which the beat has nothing to do is left unchanged (R86, R98, R99). -/
theorem State.beatGives.rests (h : s.beatGives x t) (hr : s.restsAtBeat w) :
    t.window w = s.window w ∧ t.committedLines w = s.committedLines w ∧ t.pendingLines w = s.pendingLines w ∧
      s.beatRecords t x w none := by
  refine h.frame_notActive hr.notActive fun y hy => ?_
  rw [BeatRun.evalWindow_rests _ (hy.restsAtBeat hr)]
  exact ⟨hy.1, hy.lines.2, hy.lines.1, rfl⟩

section Closing

variable (hst : (s.window w).state = .closing) (hm : (s.window w).closeMode = some .commit) (hp : s.pendingLines w ≠ [])
include hst hm hp

/-- The run notes that the lines of a final commit have joined the drain queue (R88, R98). -/
theorem State.beatRun_finalCommit (hc : s.committedLines w = []) : s.beatRun.added = true := by
  obtain ⟨y, hy, -, hlead⟩ := s.beatRun_at w
  obtain ⟨hyp, hyc⟩ := hy.lines
  rw [BeatRun.evalWindow_closing _ (by rw [hy.1, hst]) (by rw [hy.1, hm]), if_neg (by rwa [hyp]), if_pos (by rwa [hyc])] at hlead
  have hpend : y.state.pendingList w ≠ [] := fun e => hp (hyp ▸ State.pendingLines_nil.mpr e)
  exact hlead.added (by simp [BeatRun.settle, hpend])

/-- The final commit at a beat, and its lines in the drain queue (R88, R93, R98, R110). -/
theorem State.beatGives.finalCommit (h : s.beatGives x t) (hc : s.committedLines w = []) :
    (t.window w = (s.window w).committedAt (s.sel.beatNumber + 1) ∧ t.committedLines w = s.pendingLines w ∧ t.pendingLines w = [] ∧
      s.beatRecords t x w (FrameOutcome.commit.notes (s.window w))) ∧
    t.drainSettled ∧ (s.holdQueue = [] → s.issuesFrom t (s.drainQueue ++ s.framesCommitted t)) := by
  refine ⟨h.frame_notActive (by rw [hst]; decide) fun y hy => ?_, ?_⟩
  · obtain ⟨hyp, hyc⟩ := hy.lines
    have := BeatRun.closing_commits (s.sel.beatNumber + 1) (y := y) (w := w) (by rw [hy.1, hst]) (by rw [hy.1, hm]) (by rwa [hyp])
      (by rwa [hyc])
    rwa [hyp, hy.1] at this
  · obtain ⟨-, hb, a, b, k, p, -, rfl⟩ := h
    have hdrains := State.evalBeat_drains (s := s.beatAt x a b k) hb (State.beatRun_finalCommit (s := s.beatAt x a b k) hst hm hp hc)
    generalize (s.beatAt x a b k).evalBeat = u at hdrains ⊢
    exact hdrains

/-- Behind its committed set the window counts down at a beat (R98). -/
theorem State.beatGives.closingCounts (h : s.beatGives x t) (hc : s.committedLines w ≠ []) (hd : (s.window w).countDown.due = false) :
    t.window w = (s.window w).countDown ∧ t.committedLines w = s.committedLines w ∧ t.pendingLines w = s.pendingLines w ∧
      s.beatRecords t x w none := by
  refine h.frame_notActive (by rw [hst]; decide) fun y hy => ?_
  obtain ⟨hyp, hyc⟩ := hy.lines
  have := BeatRun.closing_counts (s.sel.beatNumber + 1) (y := y) (w := w) (by rw [hy.1, hst]) (by rw [hy.1, hm]) (by rwa [hyp])
    (by rwa [hyc]) (by rwa [hy.1])
  rwa [hyp, hyc, hy.1] at this

/-- When due behind its committed set the window slips at a beat (R98). -/
theorem State.beatGives.closingSlips (h : s.beatGives x t) (hc : s.committedLines w ≠ []) (hd : (s.window w).countDown.due = true) :
    t.window w = FrameOutcome.slip.record (s.sel.beatNumber + 1) (s.window w).countDown ∧ t.committedLines w = s.committedLines w ∧
      t.pendingLines w = s.pendingLines w ∧ s.beatRecords t x w (FrameOutcome.slip.notes (s.window w)) := by
  refine h.frame_notActive (by rw [hst]; decide) fun y hy => ?_
  obtain ⟨hyp, hyc⟩ := hy.lines
  have := BeatRun.closing_slips (s.sel.beatNumber + 1) (y := y) (w := w) (by rw [hy.1, hst]) (by rw [hy.1, hm]) (by rwa [hyp])
    (by rwa [hyc]) (by rwa [hy.1])
  rwa [hyp, hyc, hy.1] at this

end Closing

/-- Settles O46: a window at which the beat has nothing to do is left (`State.beatGives.rests`); a CLOSING window in COMMIT mode makes its
final commit (`State.beatGives.finalCommit`), or behind its committed set counts down or slips. -/
theorem otherWindowsAtABeat : Obligations.OtherWindowsAtABeat := by
  rintro s c x w v hbeat rfl
  obtain ⟨t, he, ht⟩ := exec_beatGives hbeat
  refine ⟨t, he, fun hr => ht.rests hr, fun hst hm hp hc => ?_, fun hst hm hp hc => ?_⟩
  · obtain ⟨⟨hw, hcs, hps, hn⟩, hsettled, hissues⟩ := ht.finalCommit hst hm hp hc
    exact ⟨hw, hcs, hps, hsettled, hissues, hn⟩
  · have hkept : t.committedLines w = s.committedLines w ∧ t.pendingLines w = s.pendingLines w := by
      rcases hd : (s.window w).countDown.due
      · obtain ⟨-, hcs, hps, -⟩ := ht.closingCounts hst hm hp hc hd
        exact ⟨hcs, hps⟩
      · obtain ⟨-, hcs, hps, -⟩ := ht.closingSlips hst hm hp hc hd
        exact ⟨hcs, hps⟩
    refine ⟨hkept.1, hkept.2, fun hd hcount => ?_, fun hdue => ?_⟩
    · have hdown := Window.countDown_notDue hd hcount
      obtain ⟨hw, -, -, hn⟩ := ht.closingCounts hst hm hp hc (by rw [hdown]; exact hd)
      exact ⟨hw.trans hdown, hn⟩
    · have hdown := Window.countDown_due hdue
      obtain ⟨hw, -, -, hn⟩ := ht.closingSlips hst hm hp hc (by rw [hdown])
      rw [hdown] at hw
      rw [← satInc_eq]
      exact ⟨hw, hn⟩

end Sys2Proof.Machine
end

section
/-! Answers from memory that match no entry of the outstanding table (R112), and drain completions while INIT is in progress (R121, R167,
R168). -/

namespace Sys2Proof.Machine

variable {s : State}

/-- An answer for a place that no entry serves changes nothing (R112). -/
theorem State.hostCompletion_unmatched {n : Nat} (h : ∀ o ∈ s.outstanding, o.serves n = false) (a : MemAnswer) :
    s.hostCompletion n a = s := by
  have hnone : s.outstanding.find? (·.serves n) = none := List.find?_eq_none.mpr fun o ho => by simp [h o ho]
  unfold State.hostCompletion
  rw [hnone]

/-- An answer for a line of which no drain write is outstanding changes nothing (R112). -/
theorem State.drainCompletion_unmatched {l : Line} (h : ∀ o ∈ s.outstanding, o.drains l = false) (a : DrainAnswer) :
    s.drainCompletion l a = s := by
  have hnone : s.outstanding.find? (·.drains l) = none := List.find?_eq_none.mpr fun o ho => by simp [h o ho]
  unfold State.drainCompletion
  rw [hnone]

/-- Settles O35: an answer that matches no entry finds none to complete (`State.hostCompletion_unmatched`,
`State.drainCompletion_unmatched`). -/
theorem unmatchedAnswersAreIgnored : Obligations.UnmatchedAnswersAreIgnored := fun _ a =>
  ⟨rfl, fun _ h => congrArg Host.Outcome.next (State.hostCompletion_unmatched h a),
    fun _ x h => congrArg Host.Outcome.next (State.drainCompletion_unmatched h x)⟩

/-- While INIT is in progress a drain completion releases its slot, and the end test of INIT is made (R121, R167). -/
theorem State.drainCompletion_busy {l : Line} {w : WindowId} {pre post : List Outstanding}
    (ho : s.outstanding = pre ++ .drain ⟨w, l⟩ :: post) (hpre : ∀ o ∈ pre, o.drains l = false) (hb : s.port.busy = true)
    (a : DrainAnswer) : s.drainCompletion l a = ({ s with outstanding := pre ++ post } : State).testInitEnd := by
  have hself : (Outstanding.drain ⟨w, l⟩).drains l = true := by simp [Outstanding.drains]
  have hfind : s.outstanding.find? (·.drains l) = some (.drain ⟨w, l⟩) :=
    List.find?_eq_some_iff_append.mpr ⟨hself, pre, post, ho, by simpa using hpre⟩
  have herase : s.outstanding.eraseP (·.drains l) = pre ++ post := by
    rw [ho, List.eraseP_append_right _ (by simpa using hpre), List.eraseP_cons_of_pos hself]
  unfold State.drainCompletion
  rw [hfind, herase]
  exact if_pos hb

/-- Settles O39: the slot released (`State.drainCompletion_busy`), the end test of INIT passes or fails (`State.initDone_iff`). -/
theorem drainCompletionsDuringInit : Obligations.DrainCompletionsDuringInit := by
  intro s l w a pre post ho hpre hb
  have completes : exec (.drainCompletion l a) s = .next ({ s with outstanding := pre ++ post } : State).testInitEnd :=
    congrArg Host.Outcome.next (State.drainCompletion_busy ho hpre hb a)
  rw [completes]
  refine ⟨fun hleft => ?_, fun hi hout => ?_⟩
  · exact congrArg Host.Outcome.next (if_neg fun hd => hleft (State.initDone_iff.mp hd).2)
  · have hdone : ({ s with outstanding := [] } : State).initDone = true := State.initDone_iff.mpr ⟨hb, hi, rfl⟩
    rw [hout]
    exact congrArg Host.Outcome.next (if_pos hdone)

end Sys2Proof.Machine
end

section
/-! The drain writes that a step issues are of lines that are not busy (R110, R111). -/

namespace Sys2Proof.Machine

variable {s t : State}

/-- From `s` to `t` only host-origin requests have been issued. -/
def State.issuesNoDrain (s t : State) : Prop := ∃ q : List Request, t.issued = s.issued ++ q.map .host

/-- From `s` to `t` drain writes have been issued only of lines that are not busy in `t` (R111). -/
def State.drainsClear (s t : State) : Prop :=
  ∃ q, t.issued = s.issued ++ q ∧ ∀ l lanes, BusRequest.drain l lanes ∈ q → t.lineBusy l = false

theorem State.issuesNoDrain.refl (s : State) : s.issuesNoDrain s := ⟨[], by simp⟩

theorem State.issuesNoDrain.congr {u : State} (h : s.issuesNoDrain t) (hi : u.issued = t.issued) : s.issuesNoDrain u := by
  unfold State.issuesNoDrain
  rwa [hi]

theorem State.issuesNoDrain.clear (h : s.issuesNoDrain t) : s.drainsClear t := by
  obtain ⟨q, hq⟩ := h
  exact ⟨_, hq, by simp⟩

theorem State.drainsClear.congr {u : State} (h : s.drainsClear t) (hi : u.issued = t.issued) (hw : u.waitList = t.waitList)
    (ho : u.outstanding = t.outstanding) : s.drainsClear u := by
  unfold State.drainsClear
  simp only [State.lineBusy_eq, hi, hw, ho]
  exact h

/-! ### The two issue rules (R109, R110) -/

theorem State.issuesNoDrain.issueHost (h : s.issuesNoDrain t) : s.issuesNoDrain t.issueHost := by
  obtain ⟨q, hq⟩ := h
  exact ⟨q ++ (t.waitList.take (Config.maxHostOutstanding - t.hostCount)).map (·.request),
    by simp [State.issueHost, hq, Function.comp_def]⟩

/-- The rule picks no entry of a busy line, and a drain write leaves every line as busy as it was (R110, R111). -/
theorem State.issuesNoDrain.issueBut (h : s.issuesNoDrain t) (p : DrainRef → Bool) : s.drainsClear (t.issueBut p) := by
  obtain ⟨q, hq⟩ := h
  refine ⟨_, (congrArg (· ++ _) hq).trans (List.append_assoc _ _ _), fun l lanes hm => ?_⟩
  have hm := (List.mem_append.mp hm).resolve_left (by simp)
  obtain ⟨e, he, hdrain⟩ := List.mem_map.mp hm
  obtain ⟨r, hr, hentry⟩ := List.mem_filterMap.mp he
  obtain ⟨-, hline, -⟩ := Entry.isCommittedOf_iff.mp (State.committedEntry_some hentry).2
  have hwaits := (pickDrains_spec _ _ _).2.1 r hr
  obtain rfl : e.line = l := (BusRequest.drain.inj hdrain).1
  rw [State.issueBut, State.issuePicked_lineBusy, hline]
  exact (Bool.or_eq_false_iff.mp hwaits).1

theorem State.issuesNoDrain.drainIssue (h : s.issuesNoDrain t) : s.drainsClear t.drainIssue := by
  cases hb : t.port.busy with
  | false => rw [State.drainIssue_eq hb]; exact h.issueBut _
  | true => rw [State.drainIssue_busy_eq hb]; exact h.clear

theorem State.issuesNoDrain.drainIssueBut (h : s.issuesNoDrain t) (w : WindowId) : s.drainsClear (t.drainIssueBut w) := by
  cases hb : t.port.busy with
  | false => rw [State.drainIssueBut_eq hb w]; exact h.issueBut _
  | true => rw [State.drainIssueBut, if_pos hb]; exact h.clear

/-! ### Events -/

/-- A re-examination hands requests over and issues none (R75, R76). -/
theorem State.issuesNoDrain.passKeeps (s : State) : PassKeeps s.issuesNoDrain where
  notify _ _ _ _ _ h := h.congr rfl
  update _ _ _ _ h := h.congr rfl
  allocate _ _ _ _ _ _ h := h.congr rfl
  merge _ _ _ _ h := h.congr rfl
  rehold _ _ _ _ _ _ h := h.congr rfl
  answer _ _ _ _ _ h := h.congr rfl
  send _ _ _ _ _ _ _ _ h := h.congr rfl

/-- The drain engine's rule comes last in the close of an event, behind the hand-overs and issues that make lines busy (R88, R109, R110). -/
theorem State.issuesNoDrain.closeEvent (h : s.issuesNoDrain t) (d snt : Bool) (trig : List Nat) :
    s.drainsClear (t.closeEvent d snt trig) := by
  have hpass : s.issuesNoDrain (t.reexamine trig).state :=
    State.reexamine_keeps (fun u g hg _ => u.reclassify_keeps (State.issuesNoDrain.passKeeps s) g hg) t trig h
  have hissue : s.issuesNoDrain
      (if snt || (t.reexamine trig).sent then (t.reexamine trig).state.issueHost else (t.reexamine trig).state) := by
    split
    · exact hpass.issueHost
    · exact hpass
  unfold State.closeEvent
  dsimp only
  split
  · exact hissue.drainIssue
  · exact hissue.clear

theorem State.issuesNoDrain.takeRequest (h : s.issuesNoDrain t) (r : Request) : s.drainsClear (t.takeRequest r) := by
  have judged : (t.judgeNew r).state.issued = t.issued := by
    have hf := t.judgeNew_frame r
    unfold State.sameButStore at hf
    rw [hf]
  have entered : (t.enter r (t.judgeNew r)).issued = (t.judgeNew r).state.issued := by
    unfold State.enter
    dsimp only
    split <;> rfl
  exact (h.congr (entered.trans judged)).closeEvent _ _ _

theorem State.issuesNoDrain.timeout (h : s.issuesNoDrain t) (g : Held) : s.drainsClear (t.timeout g) := by
  refine (h.congr ?_).closeEvent _ _ _
  cases g.window <;> rfl

theorem State.issuesNoDrain.closeTo (h : s.issuesNoDrain t) (w : WindowId) (m : CloseMode) : s.drainsClear (t.closeTo w m) := by
  obtain ⟨-, -, -, -, -, off, -⟩ := (t.closeMarked w m).testOff_rest w
  rw [State.closeTo_eq]
  refine (h.congr (off.trans ?_)).closeEvent _ _ _
  cases m <;> rfl

theorem State.issuesNoDrain.drained (h : s.issuesNoDrain t) (w : WindowId) (l : Line) : s.drainsClear (t.drained w l) := by
  obtain ⟨-, -, -, -, -, off, -⟩ := (t.entryFreed w l).testOff_rest w
  rw [State.drained_eq]
  exact (h.congr off).closeEvent _ _ _

theorem State.issuesNoDrain.dropEntry (h : s.issuesNoDrain t) (w : WindowId) (l : Line) : s.drainsClear (t.dropEntry w l) := by
  have dropped : s.issuesNoDrain (t.dropped w l) := h.congr rfl
  rw [State.dropEntry_eq]
  exact dropped.closeEvent _ _ _

theorem State.issuesNoDrain.firstError (h : s.issuesNoDrain t) (w : WindowId) (l : Line) : s.drainsClear (t.firstError w l) := by
  have requeued : s.issuesNoDrain (t.requeue w l) := h.congr rfl
  rw [State.firstError_eq]
  split
  · exact requeued.drainIssueBut w
  · exact requeued.drainIssue

/-- A command's result leaves the two ports and what was issued (R162). -/
theorem State.drainsClear.complete {x : ResultCode × State} (h : s.drainsClear x.2) (c : CommandName) :
    s.drainsClear (complete c x) := h.congr rfl rfl rfl

/-- The end of INIT leaves the two ports and what was issued (R168). -/
theorem State.drainsClear.testInitEnd (h : s.drainsClear t) : s.drainsClear t.testInitEnd := by
  unfold State.testInitEnd
  split
  · exact h.congr rfl rfl rfl
  · exact h

/-- Memory's answer to a drain write (R114 to R117, R121). -/
theorem State.issuesNoDrain.drainCompletion (h : s.issuesNoDrain t) (l : Line) (a : DrainAnswer) :
    s.drainsClear (t.drainCompletion l a) := by
  have erased : s.issuesNoDrain { t with outstanding := t.outstanding.eraseP (·.drains l) } := h.congr rfl
  unfold State.drainCompletion
  split
  · dsimp only
    split
    · exact erased.clear.testInitEnd
    · split
      · exact erased.drainIssue
      · exact erased.drained _ l
      · split
        · exact erased.dropEntry _ l
        · exact erased.firstError _ l
  · exact h.clear

/-- Memory's answer to a host-origin request (R113). -/
theorem State.issuesNoDrain.hostCompletion (h : s.issuesNoDrain t) (n : Nat) (a : MemAnswer) :
    s.drainsClear (t.hostCompletion n a) := by
  unfold State.hostCompletion
  split
  · refine (State.issuesNoDrain.drainIssue (State.issuesNoDrain.issueHost (h.congr ?_))).testInitEnd
    cases a <;> rfl
  · exact h.clear

/-- INIT answers held requests and issues nothing (R83, R165). -/
theorem State.issuesNoDrain.takeInit (h : s.issuesNoDrain t) : s.drainsClear t.takeInit := by
  have answered : s.issuesNoDrain t.initTaken.answerHeld :=
    State.answerHeld_keeps (fun _ _ _ hu => hu.congr rfl) (h.congr rfl)
  exact answered.clear.testInitEnd

/-- The evaluation of the windows issues nothing; the close of the beat's event does (R88). -/
theorem State.issuesNoDrain.evalBeat (h : s.issuesNoDrain t) : s.drainsClear t.evalBeat := by
  cases hb : t.port.busy with
  | true => rw [State.evalBeat_busy t hb]; exact h.clear
  | false =>
    obtain ⟨-, -, -, hissued, -⟩ := t.beatRun_rest
    rw [State.evalBeat_eq hb]
    exact (h.congr hissued).closeEvent _ _ _

/-! ### Steps -/

/-- In a step's beats: none is delivered and nothing is issued; or one is, which leaves the lines of its drain writes not busy, and the
minimum gap shuts out a second (R144). -/
theorem State.Beats.drainsClear (h : s.Beats t) (hg : 10 ≤ s.sel.gap.toNat) :
    s.issuesNoDrain t ∨ (t.sel.lastDelivered = some s.timeBase ∧ s.drainsClear t) := by
  induction h with
  | refl => exact .inl (.refl s)
  | beside _ hst hbt ih =>
    obtain ⟨-, -, -, -, -, -, hw, ho, -, hi, -⟩ := State.sameStore_iff.mp hst
    obtain ⟨-, -, hlast, -⟩ := hbt
    exact ih.imp (·.congr hi) fun ⟨hd, hc⟩ => ⟨hlast.trans hd, hc.congr hi hw ho⟩
  | @offer u c hb ih =>
    obtain ⟨htime, hgap, -⟩ := hb.commits hg 0
    have first : u.sel.gapPasses u.timeBase = true → s.issuesNoDrain u := fun hpass =>
      ih.resolve_right fun ⟨hd, _⟩ => by
        rw [htime, State.gapPasses_again hd (hgap ▸ hg)] at hpass
        cases hpass
    have delivered : ∀ v : State, v.issued = u.issued → v.sel.lastDelivered = some u.timeBase → u.sel.gapPasses u.timeBase = true →
        v.evalBeat.sel.lastDelivered = some s.timeBase ∧ s.drainsClear v.evalBeat := fun v hi hd hpass =>
      ⟨by rw [State.evalBeat_sel, hd, htime], ((first hpass).congr hi).evalBeat⟩
    rcases u.offer_cases c with ⟨e, -⟩ | ⟨e, -⟩ | ⟨-, -, hpass, e⟩ | ⟨-, -, -, hpass, e⟩ <;> rw [e]
    · exact ih
    · exact ih
    · exact .inr (delivered _ rfl rfl hpass)
    · exact .inr (delivered _ rfl rfl hpass)

theorem State.Happens.drainsClear (h : s.Happens t) (hg : 10 ≤ s.sel.gap.toNat) : s.drainsClear t := by
  have start := State.issuesNoDrain.refl s
  have aside : ∀ {u : State}, s.sameStore u → s.issuesNoDrain u := fun hst => by
    obtain ⟨-, -, -, -, -, -, -, -, -, hi, -⟩ := State.sameStore_iff.mp hst
    exact start.congr hi
  have updated : ∀ w f, s.issuesNoDrain (s.updWindow w f) := fun _ _ => start.congr rfl
  cases h with
  | aside hst => exact (aside hst).clear
  | beats hb => exact (hb.drainsClear hg).elim (·.clear) (·.2)
  | descriptor w d _ => exact (updated w _).clear
  | opened w _ _ _ => exact (updated w _).clear.complete (x := (.done, _)) .openW
  | closed w m _ _ => exact (start.closeTo w m).complete (x := (.done, _)) .closeW
  | taken r hst _ => exact (aside hst).takeRequest r
  | timeout g _ => exact start.timeout g
  | hostAnswer n a => exact start.hostCompletion n a
  | drainAnswer l a => exact start.drainCompletion l a
  | init _ => exact start.takeInit
  | initEnd => exact start.clear.testInitEnd

/-- Settles O20: every happening issues its drain writes last, by a rule that passes over busy lines (`State.Happens.drainsClear`); a
hardware reset issues none. -/
theorem noDrainWriteOnABusyLine : Obligations.NoDrainWriteOnABusyLine := by
  rintro s t l lanes ⟨-, hgap, -⟩ hst hm
  rcases step_happens hst with ⟨rest, -, rfl⟩ | hh
  · exact absurd hm (by simp [State.reset])
  · obtain ⟨q, hq, hclear⟩ := hh.drainsClear hgap
    rw [hq, List.drop_left] at hm
    exact hclear l lanes hm

end Sys2Proof.Machine
end

section
/-! An edge at a tracker that does not hold lock (R124, R130 to R132, R137). -/

namespace Sys2Proof.Machine

variable {s : State} {tr : BeatLine}

/-- With no miss overdue an edge is judged at once (R133, R135). -/
theorem exec_beatEdge_onTime (h : (s.tracker tr).missOverdue s.timeBase = false) :
    exec (.beatEdge tr) s = .next (s.edge tr) := by
  have htaken : State.takeOverdue tr 8 s = s := if_neg (by simp [h])
  show Host.Outcome.next ((State.takeOverdue tr 8 s).edge tr) = _
  rw [htaken]

/-- A tracker that does not hold lock has no miss (R134). -/
theorem Tracker.missOverdue_unlocked {v : Tracker} (h : v.holdsLock = false) (t : Time) : v.missOverdue t = false := by
  simp [Tracker.missOverdue, h]

theorem exec_beatEdge_unlocked (h : (s.tracker tr).holdsLock = false) : exec (.beatEdge tr) s = .next (s.edge tr) :=
  exec_beatEdge_onTime (Tracker.missOverdue_unlocked h _)

theorem exec_beatEdge_qualifying (h : (s.tracker tr).state = .qualifying) :
    exec (.beatEdge tr) s = .next (s.qualifyEdge tr) := by
  rw [exec_beatEdge_unlocked (by simp [Tracker.holdsLock, h]), State.edge, h]

/-- Settles O40: no miss is overdue, and the edge is judged by the tracker's state alone. -/
theorem edgesAtAnIdleTracker : Obligations.EdgesAtAnIdleTracker := by
  refine fun s tr => ⟨fun h => ?_, fun h => ?_⟩
  · rw [exec_beatEdge_unlocked (by simp [Tracker.holdsLock, h]), State.edge, h]
  · rw [exec_beatEdge_unlocked (by simp [Tracker.holdsLock, h]), State.edge, h]
    rfl

/-! ### A QUALIFYING tracker -/

/-- The reference period and the good count that an edge gives after an interval, if it is good: it learns the period, or agrees with the
one learned (R131, R132). -/
def Tracker.goodAt (v : Tracker) (interval : Nat) : Option (Nat × Nat) :=
  match v.refPeriod with
  | none => if 100 ≤ interval ∧ interval ≤ 1000000 then some (interval, 2) else none
  | some p =>
    if p ≤ interval + v.tolerance.toNat ∧ interval ≤ p + v.tolerance.toNat then some (p, v.goodCount + 1) else none

/-- An edge that is not good restarts the run; a good one counts, and may lock (R131, R132). -/
theorem Tracker.qualify_eq {v : Tracker} {l : Time} (hl : v.lastEdge = some l) (t : Time) :
    v.qualify t =
      match v.goodAt (t - l) with
      | none => v.firstEdge t
      | some (p, g) => v.goodEdge t p g := by
  have hrange : Config.minPeriod = 100 ∧ Config.maxPeriod = 1000000 := ⟨rfl, rfl⟩
  unfold Tracker.qualify Tracker.goodAt
  rw [hl, hrange.1, hrange.2]
  dsimp only
  rcases v.refPeriod with _ | p
  · dsimp only
    split <;> rfl
  · simp only [Tracker.agrees, Bool.and_eq_true, decide_eq_true_eq]
    split <;> rfl

/-- An edge that leaves the tracker QUALIFYING records nothing (R131, R132). -/
theorem State.qualifyEdge_qualifies {w : Tracker} (h : (s.tracker tr).qualify s.timeBase = w) (hw : w.state ≠ .locked) :
    s.qualifyEdge tr = s.setTracker tr w := by
  unfold State.qualifyEdge
  rw [h]
  exact if_neg hw

/-- An edge that locks records LOCK_GAINED (R132, R137). -/
theorem State.qualifyEdge_locks {w : Tracker} (h : (s.tracker tr).qualify s.timeBase = w) (hw : w.state = .locked) :
    s.qualifyEdge tr =
      { s.setTracker tr w with notif := (s.notify .lockGained (.source tr.source) none none).notif } := by
  unfold State.qualifyEdge
  rw [h]
  refine (if_pos hw).trans ?_
  cases tr <;> rfl

/-- Settles O41: an edge is good or not by its interval (`Tracker.qualify_eq`), and a good one locks or not by its good count. -/
theorem edgesAtAQualifyingTracker : Obligations.EdgesAtAQualifyingTracker := by
  rintro s tr v l interval rfl hst hl ht good hgood
  obtain rfl : good = (s.tracker tr).goodAt interval := hgood
  have hjudged := Tracker.qualify_eq hl s.timeBase
  rw [show s.timeBase - l = interval by rw [ht]; exact Nat.add_sub_cancel_left l interval] at hjudged
  rw [exec_beatEdge_qualifying hst]
  refine ⟨fun h => ?_, fun p g h hg => ?_, fun p g h hg => ?_⟩ <;> rw [h] at hjudged <;> dsimp only at hjudged
  · rw [State.qualifyEdge_qualifies hjudged nofun, Tracker.firstEdge, ← hst]
  · rw [Tracker.goodEdge, if_neg (Nat.not_le.mpr hg)] at hjudged
    rw [State.qualifyEdge_qualifies hjudged (by simp [hst])]
  · rw [Tracker.goodEdge, if_pos hg] at hjudged
    rw [State.qualifyEdge_locks hjudged rfl, Tracker.lock]

end Sys2Proof.Machine
end

section
/-! A candidate where its beat changes no window, and the tracker that offers one: an edge in lock (R133, R136) and a miss (R134, R150). -/

namespace Sys2Proof.Machine

variable {s : State} {tr : BeatLine}

/-! ### A beat that changes no window (R86, R87, R99) -/

theorem State.noFrame.evalBeat (h : s.noFrame) : s.evalBeat = s := by
  cases hb : s.port.busy with
  | true => exact State.evalBeat_busy s hb
  | false =>
    have hstill : s.beatRun = ⟨s, [], false, false⟩ :=
      BeatRun.foldl_still _ _ _ fun u _ => h.resolve_left (by simp [hb]) u
    rw [State.evalBeat_eq hb, hstill]
    exact State.closeEvent_nothing s false false

/-- What a candidate leaves of the notifications: a switch of source is recorded (R145, R148). -/
theorem State.afterBeat_notif_eq (s : State) (x : Source) :
    (s.afterBeat x).notif =
      if (s.sel.afterCandidate x s.timeBase).current = s.sel.current then s.notif
      else s.notif.record ⟨.sourceSwitched, .source x, (s.sel.afterCandidate x s.timeBase).beatNumber, none, none, 1⟩ := by
  unfold State.afterBeat
  dsimp only
  split <;> rfl

theorem Selector.delivers_of_gapPasses {k : Selector} {x : Source} {t : Time} (hx : x = k.current ∨ k.target = some x)
    (hg : k.gapPasses t = true) : k.delivers x t := by
  refine ⟨hx, fun d hd => ?_⟩
  simpa [Selector.gapPasses, hd] using hg

/-- A candidate whose beat changes no window changes the selector and, at a switch, records it, and nothing else (R142 to R145, R148). -/
theorem State.noFrame.offer (h : s.noFrame) (x : Source) :
    (s.offer x).2 = { s with sel := s.sel.afterCandidate x s.timeBase, notif := (s.afterBeat x).notif } := by
  have hsel := (s.offer_sel x).1
  have kept : (s.offer x).2 = s → s.notif = (s.afterBeat x).notif := fun e => by
    rw [State.afterBeat_notif_eq, ← hsel, e, if_pos rfl]
  rw [← hsel]
  rcases s.offer_cases x with ⟨e, -⟩ | ⟨e, -⟩ | ⟨-, hc, hg, e⟩ | ⟨-, hc, ht, hg, e⟩
  · rw [← kept (by rw [e]), e]
  · rw [← kept (by rw [e]), e]
  · rw [State.afterBeat_notif (Selector.delivers_of_gapPasses (.inl hc) hg), if_pos hc, e.trans (State.noFrame.evalBeat h)]
  · rw [State.afterBeat_notif (Selector.delivers_of_gapPasses (.inr ht) hg), if_neg hc, e.trans (State.noFrame.evalBeat h)]
    rfl

/-! ### The candidate of a tracker -/

theorem State.setTracker_afterBeat_notif (s : State) (tr : BeatLine) (w : Tracker) (x : Source) :
    ((s.setTracker tr w).afterBeat x).notif = (s.afterBeat x).notif := by
  rw [State.afterBeat_notif_eq, State.afterBeat_notif_eq, State.setTracker_sel, State.setTracker_timeBase, State.setTracker_notif]

/-- A tracker that moves on to `w` and offers a candidate: the selector follows the candidate, and nothing else changes unless a beat is
delivered at which windows are evaluated (R136, R142 to R145, R148). -/
theorem State.setTracker_offer (s : State) (tr : BeatLine) (w : Tracker) :
    ∃ t, t = ((s.setTracker tr w).offer tr.source).2 ∧ t.tracker tr = w ∧
      t.sel = s.sel.afterCandidate tr.source s.timeBase ∧
      (t.sel = s.sel → t = s.setTracker tr (t.tracker tr)) ∧
      (s.noFrame → t = { s.setTracker tr (t.tracker tr) with sel := t.sel, notif := (s.afterBeat tr.source).notif }) := by
  obtain ⟨hselector, hkept⟩ := (s.setTracker tr w).offer_sel tr.source
  have htracker : ((s.setTracker tr w).offer tr.source).2.tracker tr = w := by simp
  have hsel := hselector
  rw [State.setTracker_sel, State.setTracker_timeBase] at hsel
  refine ⟨_, rfl, htracker, hsel, fun h => ?_, fun h => ?_⟩
  · rw [htracker]
    exact hkept (by rw [h, State.setTracker_sel])
  · have hframe : (s.setTracker tr w).noFrame := by
      unfold State.noFrame at h ⊢
      simpa using h
    refine (hframe.offer tr.source).trans ?_
    rw [State.setTracker_afterBeat_notif, htracker, hselector]

/-! ### An edge at a tracker in lock (R133) -/

theorem Tracker.holdsLock_iff {v : Tracker} : v.holdsLock = true ↔ v.state = .locked ∨ v.state = .holdover := by
  simp [Tracker.holdsLock]

theorem Tracker.notDisabled_of_holdsLock {v : Tracker} (h : v.holdsLock = true) : v.state ≠ .disabled := by
  rcases Tracker.holdsLock_iff.mp h with h | h <;> simp [h]

/-- In lock an edge is judged against the expected time (R133). -/
theorem State.edge_locked (h : (s.tracker tr).holdsLock = true) : s.edge tr = s.judgeEdge tr := by
  unfold State.edge
  rcases Tracker.holdsLock_iff.mp h with h | h <;> rw [h]

/-- An early edge is counted (R133). -/
theorem exec_beatEdge_early {e : Time} (hl : (s.tracker tr).holdsLock = true) (he : (s.tracker tr).expected = some e)
    (h : s.timeBase + (s.tracker tr).tolerance.toNat < e) :
    exec (.beatEdge tr) s =
      .next (s.setTracker tr { s.tracker tr with earlyCount := satInc (s.tracker tr).earlyCount }) := by
  have hsoon : ¬ e + (s.tracker tr).tolerance.toNat < s.timeBase :=
    Nat.not_lt.mpr (((Nat.le_add_right _ _).trans h.le).trans (Nat.le_add_right _ _))
  rw [exec_beatEdge_onTime (by simp [Tracker.missOverdue, he, hsoon]), State.edge_locked hl]
  unfold State.judgeEdge
  dsimp only
  split
  · next hnone => cases he.symm.trans hnone
  · next e' he' =>
    obtain rfl : e = e' := Option.some.inj (he.symm.trans he')
    rw [if_pos h]

/-- Settles O42: no miss is overdue; an early edge is counted, and an accepted one moves the tracker on and offers its candidate
(`State.setTracker_offer`). -/
theorem edgesAtALockedTracker : Obligations.EdgesAtALockedTracker := by
  rintro s tr v e p rfl hst he hp hlate
  have hl : (s.tracker tr).holdsLock = true := Tracker.holdsLock_iff.mpr hst
  refine ⟨fun hearly => ?_, fun hlow => ?_⟩
  · rw [exec_beatEdge_early hl he hearly, satInc_eq]
  · obtain ⟨t, ht, hw, hrest⟩ := s.setTracker_offer tr ((s.tracker tr).accept s.timeBase)
    refine ⟨t, by rw [exec_beatEdge_accepted hl he hlow hlate, ht], ?_, hrest⟩
    rw [hw, Tracker.accept, hp]
    rfl

/-! ### A miss (R134) -/

theorem Tracker.missDue_of {v : Tracker} {e t : Time} (hl : v.holdsLock = true) (he : v.expected = some e)
    (hdue : e + v.tolerance.toNat ≤ t) : v.missDue t = true := by
  simp [Tracker.missDue, hl, he, hdue]

/-- `s` after a loss of lock, with LOCK_LOST recorded (R134, R137). -/
def State.lockLost (s : State) (tr : BeatLine) : State :=
  (s.setTracker tr (s.tracker tr).lost).notify .lockLost (.source tr.source) none none

theorem State.lockLost_eq (s : State) (tr : BeatLine) :
    s.lockLost tr =
      { s.setTracker tr (s.tracker tr).lost with notif := (s.notify .lockLost (.source tr.source) none none).notif } := by
  cases tr <;> rfl

/-- What a miss does: below the limit the tracker coasts and offers a candidate; at the limit it loses lock, and the selector fails over from
it if it was C and the failover enable is set (R134, R136, R150). -/
theorem State.miss_eq (s : State) (tr : BeatLine) :
    s.miss tr =
      if (s.tracker tr).losesLock then
        if s.sel.current = tr.source ∧ s.sel.failoverEnable = true then (s.lockLost tr).failover tr.source else s.lockLost tr
      else ((s.setTracker tr (s.tracker tr).coast).offer tr.source).2 := by
  cases tr <;> rfl

/-- Settles O43: a miss below the limit coasts and offers its candidate (`State.setTracker_offer`); one at the limit is `State.lockLost`,
with the failover of a C whose failover enable is set. -/
theorem trackerMisses : Obligations.TrackerMisses := by
  rintro s tr v e p rfl hst he hp hdue
  have hl : (s.tracker tr).holdsLock = true := Tracker.holdsLock_iff.mpr hst
  refine ⟨fun hlim => ?_, fun hlim lost hlost => ?_⟩
  · obtain ⟨t, ht, hw, hrest⟩ := s.setTracker_offer tr (s.tracker tr).coast
    refine ⟨t, by rw [exec_trackerMiss_coasts hl he hdue hlim, ht], ?_, hrest⟩
    rw [hw, Tracker.coast, he, hp]
    rfl
  · obtain rfl : lost = s.lockLost tr := hlost.trans (s.lockLost_eq tr).symm
    rw [exec_trackerMiss_due (Tracker.missDue_of hl he hdue), State.miss_eq,
      if_pos (show (s.tracker tr).losesLock = true by simpa [Tracker.losesLock] using hlim)]
    refine ⟨fun hc => by rw [if_neg hc], fun d hc hf hd => ?_⟩
    have hsel : (s.lockLost tr).sel = s.sel := by simp [State.lockLost]
    rw [if_pos ⟨hc, hf⟩, State.failover, hsel, hd, State.notify_notif]
    simp only [State.notify, hsel]

end Sys2Proof.Machine
end

section
/-! The writes of a tracker's configuration and of its enable (R126, R128, R129, R152). -/

namespace Sys2Proof.Machine

variable {s : State} {tr : BeatLine}

theorem State.sourceTaken_iff : s.sourceTaken tr = true ↔ s.sel.current = tr.source ∨ s.sel.target = some tr.source := by
  simp [State.sourceTaken]

/-- A field of a word, as the number that R159 gives it and as the value it carries. -/
theorem field_eq {v : Word} {lo len n : Nat} (h : v.toNat / 2 ^ lo % 2 ^ len = n) :
    bitsOf v lo len = n ∧ v.extractLsb' lo len = BitVec.ofNat len n := by
  have hbits : bitsOf v lo len = n := by rw [bitsOf, BitVec.extractLsb'_toNat, Nat.shiftRight_eq_div_pow, h]
  exact ⟨hbits, by rw [← hbits, bitsOf, BitVec.ofNat_toNat, BitVec.setWidth_eq]⟩

/-- T, Q and M, written together with all lanes enabled (R125, R126). -/
theorem exec_trackerConfigurationWrite {v : Word} {tol q m : Nat} (htol : v.toNat % 2 ^ 12 = tol)
    (hq : v.toNat / 2 ^ 16 % 2 ^ 4 = q) (hm : v.toNat / 2 ^ 24 % 2 ^ 3 = m) :
    exec (.trackerConfigurationWrite tr ⟨v, 0xF⟩) s =
      .next
        (if s.sourceTaken tr then s.ignoreWrite
        else if 1 ≤ tol ∧ 2 ≤ q ∧ 1 ≤ m then
          s.setTracker tr
            { s.tracker tr with
              tolerance := BitVec.ofNat 12 tol, qualCount := BitVec.ofNat 4 q, missLimit := BitVec.ofNat 3 m }
        else s.ignoreWrite) := by
  obtain ⟨htolBits, htolVal⟩ := lowestField_eq 12 htol
  obtain ⟨hqBits, hqVal⟩ := field_eq hq
  obtain ⟨hmBits, hmVal⟩ := field_eq hm
  show Host.Outcome.next (s.writeTrackerConfig tr (s.mergeWrite (.trackerConfig tr) ⟨v, 0xF⟩)) = _
  rw [State.mergeWrite_full, State.writeTrackerConfig, htolBits, htolVal, hqBits, hqVal, hmBits, hmVal]

theorem exec_trackerEnableClear :
    exec (.trackerEnableClear tr) s =
      .next
        (if s.sourceTaken tr then s.ignoreWrite
        else if (s.tracker tr).state = .disabled then s
        else s.setTracker tr (s.tracker tr).disabled) := rfl

theorem exec_trackerEnableSet :
    exec (.trackerEnableSet tr) s =
      .next
        (if (s.tracker tr).state = .disabled then s.setTracker tr { s.tracker tr with enable := true, state := .seeking }
        else s) := rfl

/-- Settles O56: each write by the case of its rule. -/
theorem trackerWrites : Obligations.TrackerWrites := by
  intro s tr v tol q m htol hq hm
  rw [exec_trackerConfigurationWrite htol hq hm, exec_trackerEnableClear, exec_trackerEnableSet, ← State.sourceTaken_iff]
  refine ⟨fun h => ⟨by rw [if_pos h, State.ignoreWrite], by rw [if_pos h, State.ignoreWrite]⟩,
    fun h => ⟨fun hr => ?_, fun hr => ?_, fun hd => ?_, fun hd => ?_⟩, fun hd => ?_, fun hd => ?_⟩
  · rw [if_neg h, if_pos hr]
  · rw [if_neg h, if_neg hr, State.ignoreWrite]
  · rw [if_neg h, if_neg hd, Tracker.disabled]
  · rw [if_neg h, if_pos hd]
  · rw [if_pos hd]
  · rw [if_neg hd]

end Sys2Proof.Machine
end

section
/-! SUPPORT. What a step can do to the trackers and the selector (R124 to R155): the commands that leave them, and one case for each kind
of change, so that a law of theirs is proved change by change. -/

namespace Sys2Proof.Machine

variable {s t u : State} {tr : BeatLine}

/-- The trackers and the selector. -/
def State.tracking (s : State) : Tracker × Tracker × Selector := (s.trackerA, s.trackerB, s.sel)

theorem State.tracking_iff : t.tracking = s.tracking ↔ (∀ tr, t.tracker tr = s.tracker tr) ∧ t.sel = s.sel := by
  constructor
  · intro h
    obtain ⟨ha, hb, hsel⟩ : t.trackerA = s.trackerA ∧ t.trackerB = s.trackerB ∧ t.sel = s.sel := by
      simpa [State.tracking] using h
    exact ⟨State.tracker_congr ha hb, hsel⟩
  · rintro ⟨htr, hsel⟩
    exact Prod.ext (htr .a) (Prod.ext (htr .b) hsel)

/-! ### What leaves them -/

section Untouched

theorem State.sameOutside.tracking (h : s.sameOutside t) : t.tracking = s.tracking := by
  obtain ⟨-, -, -, ha, hb, hsel, -⟩ := h
  exact Prod.ext ha (Prod.ext hb hsel)

theorem State.sameButStore.tracking (h : s.sameButStore t) : t.tracking = s.tracking := by
  rw [h]
  rfl

theorem State.tracking_ite {c : Prop} [Decidable c] (ht : t.tracking = s.tracking) (hu : u.tracking = s.tracking) :
    (if c then t else u).tracking = s.tracking := by
  split
  · exact ht
  · exact hu

variable (s)

theorem State.closeEvent_tracking (d snt : Bool) (trig : List Nat) : (s.closeEvent d snt trig).tracking = s.tracking :=
  (s.closeEvent_outside d snt trig).tracking

theorem State.drainIssue_tracking : s.drainIssue.tracking = s.tracking := State.tracking_ite rfl rfl

theorem State.drainIssueBut_tracking (w : WindowId) : (s.drainIssueBut w).tracking = s.tracking := State.tracking_ite rfl rfl

theorem State.testOff_tracking (w : WindowId) : (s.testOff w).tracking = s.tracking := State.tracking_ite rfl rfl

theorem State.testInitEnd_tracking : s.testInitEnd.tracking = s.tracking := State.tracking_ite rfl rfl

theorem State.openWindow_tracking (w : WindowId) : (s.openWindow w).2.tracking = s.tracking := State.tracking_ite rfl rfl

theorem State.answerHeld_tracking : s.answerHeld.tracking = s.tracking := by
  rw [State.answerHeld_fields]
  rfl

theorem State.takeRequest_tracking (r : Request) : (s.takeRequest r).tracking = s.tracking := by
  have entered : ∀ x : Steered, (s.enter r x).tracking = x.state.tracking := fun x => by
    unfold State.enter
    dsimp only
    split <;> rfl
  exact ((State.closeEvent_tracking _ _ _ _).trans (entered _)).trans (s.judgeNew_frame r).tracking

theorem State.takePresented_tracking : s.takePresented.tracking = s.tracking := by
  unfold State.takePresented
  split
  · split
    · exact State.takeRequest_tracking _ _
    · rfl
  · rfl

theorem State.timeout_tracking (h : Held) : (s.timeout h).tracking = s.tracking := by
  have counted : ∀ (t : State) (w : Option WindowId), (t.countTimeout w).tracking = t.tracking := fun t w => by cases w <;> rfl
  exact (State.closeEvent_tracking _ _ _ _).trans (counted _ _)

theorem State.closeTo_tracking (w : WindowId) (m : CloseMode) : (s.closeTo w m).tracking = s.tracking := by
  have marked : (s.closeMarked w m).tracking = s.tracking := by cases m <;> rfl
  rw [State.closeTo_eq]
  exact ((State.closeEvent_tracking _ _ _ _).trans (State.testOff_tracking _ w)).trans marked

theorem State.closeWindow_tracking (w : WindowId) (m : CloseMode) : (s.closeWindow w m).2.tracking = s.tracking := by
  unfold State.closeWindow
  split
  case h_2 => exact s.closeTo_tracking w _
  case h_4 => exact State.tracking_ite rfl (s.closeTo_tracking w _)
  case h_6 => exact s.closeTo_tracking w _
  all_goals rfl

theorem State.hostCompletion_tracking (n : Nat) (a : MemAnswer) : (s.hostCompletion n a).tracking = s.tracking := by
  unfold State.hostCompletion
  split
  · refine (State.testInitEnd_tracking _).trans ((State.drainIssue_tracking _).trans ?_)
    cases a <;> rfl
  · rfl

theorem State.drainCompletion_tracking (l : Line) (a : DrainAnswer) : (s.drainCompletion l a).tracking = s.tracking := by
  unfold State.drainCompletion
  split
  · dsimp only
    split
    · exact State.testInitEnd_tracking _
    · split
      · exact State.drainIssue_tracking _
      · rw [State.drained_eq]
        exact (State.closeEvent_tracking _ _ _ _).trans (State.testOff_tracking _ _)
      · refine State.tracking_ite ?_ (State.tracking_ite (State.drainIssueBut_tracking _ _) (State.drainIssue_tracking _))
        rw [State.dropEntry_eq]
        exact State.closeEvent_tracking _ _ _ _
  · rfl

theorem State.writeDescriptor_tracking (w : WindowId) (i : Fin 6) (v : Word) : (s.writeDescriptor w i v).tracking = s.tracking := by
  unfold State.writeDescriptor
  split
  · split <;> rfl
  · rfl

end Untouched

/-- A candidate reaches the selector alone, as `Selector.afterCandidate` says (R136, R142 to R145, R148). -/
theorem State.offer_tracking (s : State) (c : Source) :
    (s.offer c).2.tracking = ({ s with sel := s.sel.afterCandidate c s.timeBase } : State).tracking :=
  State.tracking_iff.mpr ⟨fun tr => (s.offer_tracker c tr).trans (State.tracker_congr rfl rfl tr), (s.offer_sel c).1⟩

/-! ### What a tracker can become -/

/-- What an edge, a miss below the limit, or a write can make of a tracker, short of a disable (R126, R128, R130 to R134). -/
inductive Tracker.Becomes (v : Tracker) : Tracker → Prop
  | enabled : v.state = .disabled → v.Becomes { v with enable := true, state := .seeking }
  | configured (tol : BitVec 12) (q : BitVec 4) (m : BitVec 3) : 1 ≤ tol.toNat → 2 ≤ q.toNat → 1 ≤ m.toNat →
      v.Becomes { v with tolerance := tol, qualCount := q, missLimit := m }
  | restarts (time : Time) : v.state = .seeking ∨ v.state = .qualifying → v.Becomes (v.firstEdge time)
  | counts (time : Time) (interval p g : Nat) : v.state = .qualifying → v.goodAt interval = some (p, g) →
      v.Becomes (v.goodEdge time p g)
  | early : v.holdsLock = true → v.Becomes { v with earlyCount := satInc v.earlyCount }
  | accepts (time : Time) : v.holdsLock = true → v.Becomes (v.accept time)
  | coasts : v.holdsLock = true → v.losesLock = false → v.Becomes v.coast

theorem Tracker.qualify_becomes {v : Tracker} (h : v.state = .qualifying) (time : Time) : v.Becomes (v.qualify time) := by
  rcases hl : v.lastEdge with _ | l
  · have hfirst : v.qualify time = v.firstEdge time := by rw [Tracker.qualify, hl]
    exact hfirst ▸ .restarts time (.inr h)
  · rw [Tracker.qualify_eq hl]
    split
    · exact .restarts time (.inr h)
    · next hgood => exact .counts time _ _ _ h hgood

/-- A tracker with a miss holds lock (R134). -/
theorem Tracker.holdsLock_of_missDue {v : Tracker} {time : Time} (h : v.missDue time = true) : v.holdsLock = true :=
  (Bool.and_eq_true _ _ ▸ h).1

theorem Tracker.holdsLock_of_missOverdue {v : Tracker} {time : Time} (h : v.missOverdue time = true) : v.holdsLock = true :=
  (Bool.and_eq_true _ _ ▸ h).1

/-! ### What a step can do -/

theorem BeatLine.source_inj {tr' : BeatLine} (h : tr.source = tr'.source) : tr = tr' := by
  cases tr <;> cases tr' <;> trivial

/-- The sources of the lines are external (R142). -/
theorem BeatLine.source_ne_internal : tr.source ≠ .internal := by cases tr <;> nofun

theorem BeatLine.source_ne_soft : tr.source ≠ .soft := by cases tr <;> nofun

theorem Source.line?_eq {c : Source} (h : c.line? = some tr) : c = tr.source := by
  cases c <;> cases h <;> rfl

/-- What a step other than a hardware reset can do to the trackers and the selector. -/
inductive State.Tracks (s : State) : State → Prop
  | refl : s.Tracks s
  | beside {t u : State} : s.Tracks t → u.tracking = t.tracking → s.Tracks u
  | tracker {t : State} (tr : BeatLine) {w : Tracker} : s.Tracks t → (t.tracker tr).Becomes w → s.Tracks (t.setTracker tr w)
  | lost {t : State} (tr : BeatLine) : s.Tracks t → (t.tracker tr).holdsLock = true →
      ¬ (t.sel.current = tr.source ∧ t.sel.failoverEnable = true) → s.Tracks (t.setTracker tr (t.tracker tr).lost)
  | disabled {t : State} (tr : BeatLine) : s.Tracks t → t.sourceTaken tr = false →
      s.Tracks (t.setTracker tr (t.tracker tr).disabled)
  | offer {t : State} (c : Source) : s.Tracks t → (∀ tr, c = tr.source → (t.tracker tr).holdsLock = true) →
      s.Tracks (t.offer c).2
  | failover {t : State} (c : Source) : s.Tracks t → s.Tracks (t.failover c)
  | failoverEnable {t : State} (b : Bool) : s.Tracks t → (b = true → t.currentLost = false) →
      s.Tracks { t with sel := { t.sel with failoverEnable := b } }
  | target {t : State} (p : Option Source) : s.Tracks t →
      (∀ c, p = some c → c ≠ t.sel.current ∧ ∀ tr, c = tr.source → (t.tracker tr).state ≠ .disabled) →
      s.Tracks { t with sel := { t.sel with target := p } }
  | settings {t : State} (g : BitVec 16) (p : BitVec 20) (next : Time) : s.Tracks t →
      (t.sel.lawful → 10 ≤ g.toNat ∧ g.toNat ≤ p.toNat ∧ 100 ≤ p.toNat ∧ p.toNat ≤ 1000000) →
      s.Tracks { t with sel := { t.sel with gap := g, period := p, nextTime := next } }

/-- A tracker in lock that moves on offers its candidate (R136). -/
theorem State.Tracks.trackerOffers (h : s.Tracks t) {w : Tracker} (hw : (t.tracker tr).Becomes w) (hl : w.holdsLock = true) :
    s.Tracks ((t.setTracker tr w).offer tr.source).2 := by
  refine (h.tracker tr hw).offer tr.source fun tr' e => ?_
  rw [← BeatLine.source_inj e, State.setTracker_same, hl]

theorem State.Tracks.miss (h : s.Tracks t) (hl : (t.tracker tr).holdsLock = true) : s.Tracks (t.miss tr) := by
  rw [State.miss_eq]
  split
  · split
    · refine .beside (t := (t.failover tr.source).setTracker tr (t.tracker tr).lost) ?_ (by cases tr <;> rfl)
      exact (h.failover tr.source).lost tr hl fun ⟨e, _⟩ => BeatLine.source_ne_internal e.symm
    · next hc => exact (h.lost tr hl hc).beside rfl
  · next hlim => exact h.trackerOffers (.coasts hl (by simpa using hlim)) rfl

theorem State.Tracks.takeOverdue (k : Nat) (h : s.Tracks t) : s.Tracks (State.takeOverdue tr k t) := by
  induction k generalizing t with
  | zero => exact h
  | succ k ih =>
    unfold State.takeOverdue
    split
    · next ho => exact ih (h.miss (Tracker.holdsLock_of_missOverdue ho))
    · exact h

theorem State.Tracks.judgeEdge (h : s.Tracks t) (hl : (t.tracker tr).holdsLock = true) : s.Tracks (t.judgeEdge tr) := by
  unfold State.judgeEdge
  dsimp only
  split
  · exact h
  · split
    · exact h.tracker tr (.early hl)
    · exact h.trackerOffers (.accepts _ hl) rfl

theorem State.Tracks.edge (h : s.Tracks t) : s.Tracks (t.edge tr) := by
  unfold State.edge
  split
  · exact h
  · next hst => exact h.tracker tr (.restarts _ (.inl hst))
  · next hst =>
    have hq := h.tracker tr (Tracker.qualify_becomes hst t.timeBase)
    exact hq.beside (State.tracking_ite rfl rfl)
  · next hst => exact h.judgeEdge (Tracker.holdsLock_iff.mpr (.inl hst))
  · next hst => exact h.judgeEdge (Tracker.holdsLock_iff.mpr (.inr hst))

/-- The generator schedules its next candidate and offers this one (R143). -/
theorem State.internalTick_tracks (s : State) : s.Tracks s.internalTick := by
  have scheduled : s.Tracks { s with sel := { s.sel with nextTime := s.timeBase + s.sel.period.toNat } } :=
    State.Tracks.refl.settings s.sel.gap s.sel.period _ fun ⟨_, hrange⟩ => hrange
  exact scheduled.offer .internal fun _ e => absurd e.symm BeatLine.source_ne_internal

/-! ### Commands of the slot and register writes -/

theorem State.selectSource_tracks (s : State) (c : Source) : s.Tracks (s.selectSource c).2 := by
  have start : s.Tracks s := .refl
  unfold State.selectSource
  split
  · exact start.target none nofun
  · next hc =>
    split
    · next line hline =>
      split
      · exact start
      · next hst =>
        refine start.target (some c) fun _ e => ?_
        cases e
        refine ⟨hc, fun tr e => ?_⟩
        rwa [← BeatLine.source_inj ((Source.line?_eq hline).symm.trans e)]
    · next hline =>
      refine start.target (some c) fun _ e => ?_
      cases e
      refine ⟨hc, fun tr e => ?_⟩
      subst e
      cases tr <;> cases hline

theorem State.beatNow_tracks (s : State) : s.Tracks s.beatNow.2 := by
  have offered : s.Tracks (s.offer .soft).2 := State.Tracks.refl.offer .soft fun _ e => absurd e.symm BeatLine.source_ne_soft
  unfold State.beatNow
  split
  · split
    · next e => rw [e] at offered; exact offered
    · next e => rw [e] at offered; exact offered
  · exact .refl

theorem State.command_tracks (s : State) (c : CommandName) : s.Tracks (s.command c) := by
  have start : s.Tracks s := .refl
  unfold State.command
  split
  · exact start.beside rfl
  · cases c with
    | openW => exact start.beside (s.openWindow_tracking _)
    | closeW => exact start.beside (s.closeWindow_tracking s.port.argument.window s.port.argument.mode)
    | selectSource => exact (s.selectSource_tracks _).beside rfl
    | beatNow => exact s.beatNow_tracks.beside rfl
    | init => exact start.beside ((State.testInitEnd_tracking _).trans (State.answerHeld_tracking _))

theorem State.commandWrite_tracks (s : State) (code : BitVec 8) : s.Tracks (s.commandWrite code) := by
  unfold State.commandWrite
  split
  · exact s.command_tracks _
  · exact State.Tracks.refl.beside (State.tracking_ite rfl rfl)

theorem State.currentLost_eq (h : s.sel.current = tr.source) : s.currentLost = !(s.tracker tr).holdsLock := by
  unfold State.currentLost
  rw [h]
  cases tr <;> rfl

/-- A write that sets the failover enable while C has no lock makes a failover (R151). -/
theorem State.writeFailover_tracks (s : State) (v : Word) : s.Tracks (s.writeFailover v) := by
  have start : s.Tracks s := .refl
  unfold State.writeFailover
  dsimp only
  split
  · exact ((start.failover s.sel.current).failoverEnable (v.getLsbD 0) fun _ => rfl).beside rfl
  · next hlost =>
    refine start.failoverEnable (v.getLsbD 0) fun hset => ?_
    rw [hset, Bool.true_and] at hlost
    exact Bool.eq_false_iff.mpr hlost

theorem State.writeGap_tracks (s : State) (v : Word) : s.Tracks (s.writeGap v) := by
  have start : s.Tracks s := .refl
  unfold State.writeGap
  split
  · next hr =>
    obtain ⟨hmin, hgap⟩ := hr
    exact start.settings _ s.sel.period s.sel.nextTime fun ⟨_, _, _, hperiod⟩ => ⟨hmin, hgap, hperiod⟩
  · exact start.beside rfl

theorem State.writePeriod_tracks (s : State) (v : Word) : s.Tracks (s.writePeriod v) := by
  have start : s.Tracks s := .refl
  unfold State.writePeriod
  split
  · next hr =>
    obtain ⟨hlow, hhigh, hgap⟩ := hr
    exact start.settings s.sel.gap _ s.sel.nextTime fun ⟨_, hmin, _⟩ => ⟨hmin, hgap, hlow, hhigh⟩
  · exact start.beside rfl

theorem State.writeTrackerConfig_tracks (s : State) (tr : BeatLine) (v : Word) : s.Tracks (s.writeTrackerConfig tr v) := by
  have start : s.Tracks s := .refl
  unfold State.writeTrackerConfig
  split
  · exact start.beside rfl
  · split
    · next hr =>
      obtain ⟨htol, hq, hm⟩ := hr
      exact start.tracker tr (.configured _ _ _ htol hq hm)
    · exact start.beside rfl

theorem State.enableTracker_tracks (s : State) (tr : BeatLine) : s.Tracks (s.enableTracker tr) := by
  unfold State.enableTracker
  split
  · next h => exact State.Tracks.refl.tracker tr (.enabled h)
  · exact .refl

theorem State.disableTracker_tracks (s : State) (tr : BeatLine) : s.Tracks (s.disableTracker tr) := by
  have start : s.Tracks s := .refl
  unfold State.disableTracker
  split
  · exact start.beside rfl
  · next hfree =>
    split
    · exact start
    · exact start.disabled tr (Bool.eq_false_iff.mpr hfree)

theorem State.writeReg_tracks (s : State) (g : Reg) (v : Word) : s.Tracks (s.writeReg g v) := by
  have start : s.Tracks s := .refl
  cases g with
  | command => exact s.commandWrite_tracks _
  | minimumGap => exact s.writeGap_tracks v
  | internalPeriod => exact s.writePeriod_tracks v
  | failoverEnable => exact s.writeFailover_tracks v
  | trackerConfig tr => exact s.writeTrackerConfig_tracks tr v
  | trackerEnable tr =>
    show s.Tracks (s.writeTrackerEnable tr v)
    unfold State.writeTrackerEnable
    split
    · exact s.enableTracker_tracks tr
    · exact s.disableTracker_tracks tr
  | descriptor w i => exact start.beside (s.writeDescriptor_tracking w i v)
  | flags => exact start.beside (State.tracking_ite (State.tracking_ite (s := s) rfl rfl) (State.tracking_ite rfl rfl))
  | holdLimit => exact start.beside (State.tracking_ite rfl rfl)
  | _ => exact start.beside rfl

/-! ### Every command -/

theorem exec_tracks {c : Instr} (hc : c ≠ .hardwareReset) (h : exec c s = .next t) : s.Tracks t := by
  have start : s.Tracks s := .refl
  cases c <;> obtain rfl := Host.Outcome.next.inj h
  case hardwareReset => exact absurd rfl hc
  case hostSideRequest r => exact start.beside (State.takePresented_tracking _)
  case hostOriginCompletion n a => exact start.beside (s.hostCompletion_tracking n a)
  case drainCompletion l a => exact start.beside (s.drainCompletion_tracking l a)
  case holdTimeout n =>
    split
    · exact start.beside (s.timeout_tracking _)
    · exact start
  case beatEdge tr => exact (start.takeOverdue 8).edge
  case trackerMiss tr =>
    split
    · next hdue => exact start.miss (Tracker.holdsLock_of_missDue hdue)
    · exact start
  case internalCandidate =>
    split
    · exact s.internalTick_tracks
    · exact start
  case initEnd => exact start.beside s.testInitEnd_tracking
  case undefinedCommand code => exact s.commandWrite_tracks code
  case descriptorWrite w i d => exact s.writeReg_tracks (.descriptor w i) _
  case holdLimitWrite d => exact s.writeReg_tracks .holdLimit _
  case minimumGapWrite d => exact s.writeGap_tracks _
  case internalPeriodWrite d => exact s.writePeriod_tracks _
  case failoverEnableWrite d => exact s.writeFailover_tracks _
  case trackerConfigurationWrite tr d => exact s.writeTrackerConfig_tracks tr _
  case trackerEnableSet tr => exact s.enableTracker_tracks tr
  case trackerEnableClear tr => exact s.disableTracker_tracks tr
  case registerWrite o d =>
    unfold State.busWrite
    split
    · exact s.writeReg_tracks _ _
    · exact start
  case openWindow => exact s.command_tracks .openW
  case closeWindow => exact s.command_tracks .closeW
  case selectSource => exact s.command_tracks .selectSource
  case beatNow => exact s.command_tracks .beatNow
  case initCommand => exact s.command_tracks .init
  all_goals exact start.beside rfl

theorem State.idle_tracks (s : State) : s.Tracks s.idle := by
  have start : s.Tracks s := .refl
  unfold State.idle
  split
  · next hdue => exact start.miss (tr := .a) (Tracker.holdsLock_of_missDue hdue)
  · split
    · next hdue => exact start.miss (tr := .b) (Tracker.holdsLock_of_missDue hdue)
    · split
      · exact start.beside (s.timeout_tracking _)
      · split
        · exact s.internalTick_tracks
        · split
          · exact start.beside s.takePresented_tracking
          · exact start.beside rfl

/-- What a step can do to the trackers and the selector: a hardware reset, or the changes of `State.Tracks` to the state less the command it
takes. -/
theorem step_tracks (h : step s = .next t) :
    (∃ rest, t = { State.reset with pending := rest }) ∨ ({ s with pending := s.pending.tail } : State).Tracks t := by
  rcases hp : s.pending with _ | ⟨c, rest⟩
  · rw [step_idle hp] at h
    obtain rfl := Host.Outcome.next.inj h
    have hs : ({ s with pending := [] } : State) = s := by rw [← hp]
    exact .inr (by rw [List.tail_nil, hs]; exact s.idle_tracks)
  · rw [step_front hp] at h
    by_cases hc : c = .hardwareReset
    · subst hc
      exact .inl ⟨rest, (Host.Outcome.next.inj h).symm⟩
    · exact .inr (exec_tracks hc h)

end Sys2Proof.Machine
end

section
/-! The laws of the trackers and of the selector's sources through every step (R125, R126, R128 to R134, R143, R144, R146, R150, R151). -/

namespace Sys2Proof.Machine

variable {s t : State} {tr : BeatLine}

/-! ### The values of a tracker -/

/-- A good edge gives a period in range and a good count within the run (R131, R132). -/
theorem Tracker.lawful.goodAt {v : Tracker} (h : v.lawful) {interval p g : Nat} (hg : v.goodAt interval = some (p, g)) :
    100 ≤ p ∧ p ≤ 1000000 ∧ 1 ≤ g := by
  obtain ⟨-, -, -, -, -, -, hperiod, -⟩ := h
  unfold Tracker.goodAt at hg
  split at hg
  · split at hg
    · next hr =>
      cases hg
      obtain ⟨hlow, hhigh⟩ := hr
      exact ⟨hlow, hhigh, by decide⟩
    · cases hg
  · next hp =>
    split at hg
    · cases hg
      obtain ⟨hlow, hhigh⟩ := hperiod _ hp
      exact ⟨hlow, hhigh, Nat.le_add_left 1 _⟩
    · cases hg

theorem Tracker.lawful.firstEdge {v : Tracker} (h : v.lawful) (hst : v.state = .seeking ∨ v.state = .qualifying) (time : Time) :
    (v.firstEdge time).lawful := by
  obtain ⟨hconf, henable, -, hseeking, hqual, -, -, hearly⟩ := h
  have hon : v.enable = true := henable.mpr (by rcases hst with h | h <;> simp [h])
  have hexp : v.expected = none := by
    rcases hst with h | h
    · obtain ⟨-, he, -⟩ := hseeking h
      exact he
    · obtain ⟨-, he, -⟩ := hqual h
      exact he
  have hcount : 1 ≤ 1 ∧ 1 ≤ 14 := by decide
  exact ⟨hconf, ⟨nofun, fun _ => hon⟩, nofun, nofun, fun _ => ⟨nofun, hexp, hcount⟩, nofun, nofun, hearly⟩

/-- A good edge that does not lock leaves the good count below Q, so at most 14 (R125, R132). -/
theorem Tracker.lawful.goodEdge {v : Tracker} (h : v.lawful) (hst : v.state = .qualifying) {interval p g : Nat}
    (hgood : v.goodAt interval = some (p, g)) (time : Time) : (v.goodEdge time p g).lawful := by
  obtain ⟨hlow, hhigh, hg⟩ := h.goodAt hgood
  obtain ⟨hconf, henable, -, -, hqual, -, -, hearly⟩ := h
  have hrange : ∀ q, some p = some q → 100 ≤ q ∧ q ≤ 1000000 := fun q e => by cases e; exact ⟨hlow, hhigh⟩
  have hon : v.enable = true := henable.mpr (by simp [hst])
  unfold Tracker.goodEdge
  split
  · exact ⟨hconf, ⟨nofun, fun _ => hon⟩, nofun, nofun, nofun, fun _ => ⟨nofun, nofun, Nat.zero_le _⟩, hrange, hearly⟩
  · next hq =>
    obtain ⟨-, hexp, -⟩ := hqual hst
    have hcount : g ≤ 14 := by
      have := v.qualCount.isLt
      omega
    have hnot : v.holdsLock = false := by simp [Tracker.holdsLock, hst]
    exact ⟨hconf, henable, fun e => absurd (hst.symm.trans e) nofun, fun e => absurd (hst.symm.trans e) nofun,
      fun _ => ⟨nofun, hexp, hg, hcount⟩, fun e => absurd (hnot.symm.trans e) nofun, hrange, hearly⟩

theorem Tracker.lawful.accept {v : Tracker} (h : v.lawful) (hl : v.holdsLock = true) (time : Time) : (v.accept time).lawful := by
  obtain ⟨hconf, henable, -, -, -, hlock, hperiod, hearly⟩ := h
  have hon : v.enable = true := henable.mpr (Tracker.notDisabled_of_holdsLock hl)
  obtain ⟨hp, -⟩ := hlock hl
  exact ⟨hconf, ⟨nofun, fun _ => hon⟩, nofun, nofun, nofun, fun _ => ⟨hp, nofun, Nat.zero_le _⟩, hperiod, hearly⟩

/-- A miss that does not end the lock leaves the missed count below M, so at most 6 (R125, R134). -/
theorem Tracker.lawful.coast {v : Tracker} (h : v.lawful) (hl : v.holdsLock = true) (hlim : v.losesLock = false) :
    v.coast.lawful := by
  obtain ⟨hconf, henable, -, -, -, hlock, hperiod, hearly⟩ := h
  have hon : v.enable = true := henable.mpr (Tracker.notDisabled_of_holdsLock hl)
  obtain ⟨hp, he, -⟩ := hlock hl
  have hexp : v.coast.expected ≠ none := by simpa [Tracker.coast] using he
  have hmissed : v.missedCount + 1 ≤ 6 := by
    have hbelow : v.missedCount + 1 < v.missLimit.toNat := by simpa [Tracker.losesLock] using hlim
    have := v.missLimit.isLt
    omega
  exact ⟨hconf, ⟨nofun, fun _ => hon⟩, nofun, nofun, nofun, fun _ => ⟨hp, hexp, hmissed⟩, hperiod, hearly⟩

theorem Tracker.Becomes.lawful {v w : Tracker} (h : v.Becomes w) (hv : v.lawful) : w.lawful := by
  cases h with
  | restarts time hst => exact hv.firstEdge hst time
  | counts time _ _ _ hst hgood => exact hv.goodEdge hst hgood time
  | accepts time hl => exact hv.accept hl time
  | coasts hl hlim => exact hv.coast hl hlim
  | enabled hst =>
    obtain ⟨hconf, -, hdisabled, -, -, -, hperiod, hearly⟩ := hv
    obtain ⟨hp, he, -, -, hm, -⟩ := hdisabled hst
    exact ⟨hconf, ⟨nofun, fun _ => rfl⟩, nofun, fun _ => ⟨hp, he, hm⟩, nofun, nofun, hperiod, hearly⟩
  | configured tol q m htol hq hm =>
    obtain ⟨-, hrest⟩ := hv
    exact ⟨⟨htol, hq, hm⟩, hrest⟩
  | early hl =>
    obtain ⟨hconf, henable, -, hseeking, hqual, hlock, hperiod, hearly⟩ := hv
    exact ⟨hconf, henable, fun e => absurd e (Tracker.notDisabled_of_holdsLock hl), hseeking, hqual, hlock, hperiod,
      satInc_le _ hearly⟩

theorem Tracker.lawful.lost {v : Tracker} (h : v.lawful) (hl : v.holdsLock = true) : v.lost.lawful := by
  obtain ⟨hconf, henable, -, -, -, -, -, hearly⟩ := h
  have hon : v.enable = true := henable.mpr (Tracker.notDisabled_of_holdsLock hl)
  exact ⟨hconf, ⟨nofun, fun _ => hon⟩, nofun, fun _ => ⟨rfl, rfl, rfl⟩, nofun, nofun, nofun, hearly⟩

theorem Tracker.lawful.disabled {v : Tracker} (h : v.lawful) : v.disabled.lawful := by
  obtain ⟨hconf, -⟩ := h
  exact ⟨hconf, ⟨nofun, fun e => absurd rfl e⟩, fun _ => ⟨rfl, rfl, rfl, rfl, rfl, rfl⟩, nofun, nofun, nofun, nofun, Nat.zero_le _⟩

theorem State.setTracker_lawful {w : Tracker} (h : ∀ tr, (s.tracker tr).lawful) (hw : w.lawful) (tr' : BeatLine) :
    ((s.setTracker tr w).tracker tr').lawful := by
  rw [State.setTracker_tracker]
  split
  · exact hw
  · exact h tr'

theorem State.Tracks.trackersLawful (h : s.Tracks t) (hs : ∀ tr, (s.tracker tr).lawful) : ∀ tr, (t.tracker tr).lawful := by
  induction h with
  | refl => exact hs
  | beside _ hu ih => exact fun tr => (State.tracking_iff.mp hu).1 tr ▸ ih tr
  | tracker tr _ hw ih => exact State.setTracker_lawful ih (hw.lawful (ih tr))
  | lost tr _ hl _ ih => exact State.setTracker_lawful ih ((ih tr).lost hl)
  | disabled tr _ _ ih => exact State.setTracker_lawful ih (ih tr).disabled
  | @offer u c _ _ ih => exact fun tr => (u.offer_tracker c tr).symm ▸ ih tr
  | failover _ _ ih => exact ih
  | failoverEnable _ _ _ ih => exact ih
  | target _ _ _ ih => exact ih
  | settings _ _ _ _ _ ih => exact ih

/-- Settles O14: every change of a tracker leaves values that R128 gives for its new state (`Tracker.Becomes.lawful`). -/
theorem trackersStayLawful : Obligations.TrackersStayLawful := by
  intro s t hs hst
  rcases step_tracks hst with ⟨rest, rfl⟩ | hh
  · obtain ⟨-, -, -, -, -, -, -, -, -, -, htrackers, -⟩ := resetStateIsLawful
    exact htrackers
  · exact hh.trackersLawful hs

/-! ### The sources -/

/-- The laws of the selector and of its sources, which keep each other (R143 to R146, R150, R151). -/
def State.selectorLawful (s : State) : Prop := s.sel.lawful ∧ s.sourcesLawful

theorem State.sourcesLawful.congr (h : s.sourcesLawful) (ht : t.tracking = s.tracking) : t.sourcesLawful := by
  obtain ⟨htr, hsel⟩ := State.tracking_iff.mp ht
  unfold State.sourcesLawful at h ⊢
  simpa only [htr, hsel] using h

theorem State.selectorLawful.congr (h : s.selectorLawful) (ht : t.tracking = s.tracking) : t.selectorLawful :=
  ⟨(State.tracking_iff.mp ht).2 ▸ h.1, h.2.congr ht⟩

/-- A tracker may change as long as it is not disabled while C or P, nor loses lock while it is C and the failover enable is set. -/
theorem State.selectorLawful.setTracker (h : s.selectorLawful) {w : Tracker}
    (hon : s.sel.current = tr.source ∨ s.sel.target = some tr.source → w.state ≠ .disabled)
    (hlock : s.sel.current = tr.source → s.sel.failoverEnable = true → w.holdsLock = true) :
    (s.setTracker tr w).selectorLawful := by
  obtain ⟨hsel, hsources⟩ := h
  refine ⟨by rwa [State.setTracker_sel], fun tr' => ?_⟩
  obtain ⟨hon', hbeat', hlock'⟩ := hsources tr'
  rw [State.setTracker_sel, State.setTracker_tracker]
  split
  · next e => subst e; exact ⟨hon, hbeat', hlock⟩
  · exact ⟨hon', hbeat', hlock'⟩

theorem Tracker.Becomes.keepsOn {v w : Tracker} (h : v.Becomes w) (hv : v.state ≠ .disabled) : w.state ≠ .disabled := by
  cases h with
  | configured => exact hv
  | early => exact hv
  | counts =>
    unfold Tracker.goodEdge
    split
    · nofun
    · exact hv
  | _ => nofun

theorem Tracker.Becomes.keepsLock {v w : Tracker} (h : v.Becomes w) (hv : v.holdsLock = true) : w.holdsLock = true := by
  have hst := Tracker.holdsLock_iff.mp hv
  cases h with
  | enabled h => simp [h] at hst
  | restarts _ h => rcases h with h | h <;> simp [h] at hst
  | counts _ _ _ _ h => simp [h] at hst
  | configured => exact hv
  | early => exact hv
  | accepts => rfl
  | coasts => rfl

/-- A candidate is delivered from C, or completes the switch to a P that holds lock (R144, R145, R148). -/
theorem State.selectorLawful.offer (h : s.selectorLawful) (c : Source)
    (hc : ∀ tr, c = tr.source → (s.tracker tr).holdsLock = true) : (s.offer c).2.selectorLawful := by
  refine State.selectorLawful.congr ?_ (s.offer_tracking c)
  unfold Selector.afterCandidate
  split
  · next hd =>
    obtain ⟨⟨hapart, hrange⟩, hsources⟩ := h
    refine ⟨⟨?_, hrange⟩, fun tr => ?_⟩
    · show (if c = s.sel.current then s.sel.target else none) ≠ some c
      split
      · next e => exact e ▸ hapart
      · nofun
    · obtain ⟨hon, -, -⟩ := hsources tr
      have hlocked : c = tr.source → (s.tracker tr).holdsLock = true := hc tr
      refine ⟨fun hcp => ?_, fun _ => nofun, fun e _ => hlocked e⟩
      rcases hcp with e | e
      · exact Tracker.notDisabled_of_holdsLock (hlocked e)
      · have htarget : s.sel.target = some tr.source := by
          have e : (if c = s.sel.current then s.sel.target else none) = some tr.source := e
          split at e
          · exact e
          · cases e
        exact hon (.inr htarget)
  · exact h

/-- After a failover C is INTERNAL, and P is as before unless it was INTERNAL (R150). -/
theorem State.selectorLawful.failover (h : s.selectorLawful) (c : Source) : (s.failover c).selectorLawful := by
  obtain ⟨⟨-, hrange⟩, hsources⟩ := h
  have hinternal : ∀ tr : BeatLine, Source.internal ≠ tr.source := fun _ => BeatLine.source_ne_internal.symm
  refine ⟨⟨?_, hrange⟩, fun tr => ⟨fun hcp => ?_, fun e => absurd e (hinternal tr), fun e => absurd e (hinternal tr)⟩⟩
  · show (if s.sel.target = some .internal then none else s.sel.target) ≠ some .internal
    split
    · nofun
    · next e => exact e
  · rcases hcp with e | e
    · exact absurd e (hinternal tr)
    · have e : (if s.sel.target = some .internal then none else s.sel.target) = some tr.source := e
      split at e
      · cases e
      · exact (hsources tr).1 (.inr e)

theorem State.Tracks.selectorLawful (h : s.Tracks t) (hs : s.selectorLawful) : t.selectorLawful := by
  induction h with
  | refl => exact hs
  | beside _ hu ih => exact ih.congr hu
  | tracker tr _ hw ih =>
    obtain ⟨hon, -, hlock⟩ := ih.2 tr
    exact ih.setTracker (fun h => hw.keepsOn (hon h)) fun hc hf => hw.keepsLock (hlock hc hf)
  | lost tr _ _ hn ih => exact ih.setTracker (fun _ => nofun) fun hc hf => absurd ⟨hc, hf⟩ hn
  | disabled tr _ hfree ih =>
    have hnot := fun h => Bool.eq_false_iff.mp hfree (State.sourceTaken_iff.mpr h)
    exact ih.setTracker (fun h => absurd h hnot) fun h => absurd (.inl h) hnot
  | offer c _ hc ih => exact ih.offer c hc
  | failover c _ ih => exact ih.failover c
  | @failoverEnable u b _ hb ih =>
    refine ⟨ih.1, fun tr => ?_⟩
    obtain ⟨hon, hbeat, -⟩ := ih.2 tr
    refine ⟨hon, hbeat, fun hc hset => ?_⟩
    have hlost := (State.currentLost_eq (s := u) hc).symm.trans (hb hset)
    show (u.tracker tr).holdsLock = true
    simpa using hlost
  | target p _ hp ih =>
    refine ⟨⟨fun e => (hp _ e).1 rfl, ih.1.2⟩, fun tr => ?_⟩
    obtain ⟨hon, hbeat, hlock⟩ := ih.2 tr
    exact ⟨fun h => h.elim (fun hc => hon (.inl hc)) fun e => (hp _ e).2 tr rfl, hbeat, hlock⟩
  | settings _ _ _ _ hr ih => exact ⟨⟨ih.1.1, hr ih.1⟩, ih.2⟩

/-- Settles O15: C and P change by a candidate, a failover and SELECT_SOURCE alone, and a tracker that is C or P is neither disabled nor left
as C without lock while the failover enable is set (`State.Tracks.selectorLawful`). -/
theorem sourcesStayLawful : Obligations.SourcesStayLawful := by
  intro s t hsel hsources hst
  rcases step_tracks hst with ⟨rest, rfl⟩ | hh
  · obtain ⟨-, -, -, -, -, -, -, -, -, -, -, hsel, hsources, -⟩ := resetStateIsLawful
    exact ⟨hsel, hsources⟩
  · exact hh.selectorLawful ⟨hsel, hsources⟩

end Sys2Proof.Machine
end

section
/-! The beat number and the time of the last delivered beat through every step (R144, R145). -/

namespace Sys2Proof.Machine

variable {s t u : State}

/-- The beat number and the time of the last delivered beat. -/
def State.pulse (s : State) : BitVec 32 × Option Time := (s.sel.beatNumber, s.sel.lastDelivered)

theorem State.pulse_of_tracking (h : t.tracking = s.tracking) : t.pulse = s.pulse := by
  rw [State.pulse, State.pulse, (State.tracking_iff.mp h).2]

theorem State.setTracker_pulse (s : State) (tr : BeatLine) (v : Tracker) : (s.setTracker tr v).pulse = s.pulse := by
  rw [State.pulse, State.pulse, State.setTracker_sel]

theorem State.pulse_ite {c : Prop} [Decidable c] (ht : t.pulse = s.pulse) (hu : u.pulse = s.pulse) :
    (if c then t else u).pulse = s.pulse := by
  split
  · exact ht
  · exact hu

/-! ### Commands that deliver no beat -/

section Quiet

variable (s)

theorem State.selectSource_pulse (c : Source) : (s.selectSource c).2.pulse = s.pulse := by
  unfold State.selectSource
  split
  · rfl
  · split
    · split <;> rfl
    · rfl

theorem State.writeTrackerConfig_pulse (tr : BeatLine) (v : Word) : (s.writeTrackerConfig tr v).pulse = s.pulse :=
  State.pulse_ite rfl (State.pulse_ite (s.setTracker_pulse tr _) rfl)

theorem State.writeTrackerEnable_pulse (tr : BeatLine) (v : Word) : (s.writeTrackerEnable tr v).pulse = s.pulse :=
  State.pulse_ite (State.pulse_ite (s.setTracker_pulse tr _) rfl)
    (State.pulse_ite rfl (State.pulse_ite rfl (s.setTracker_pulse tr _)))

/-- Of the commands of the slot only BEAT_NOW delivers a beat (R149). -/
theorem State.command_pulse (c : CommandName) : s.Beats (s.command c) ∨ (s.command c).pulse = s.pulse := by
  unfold State.command
  split
  · exact .inr rfl
  · cases c with
    | openW => exact .inr (State.pulse_of_tracking (s.openWindow_tracking s.port.argument.window))
    | closeW => exact .inr (State.pulse_of_tracking (s.closeWindow_tracking s.port.argument.window s.port.argument.mode))
    | selectSource => exact .inr (s.selectSource_pulse s.port.argument.source)
    | beatNow => exact .inl State.Beats.refl.beatNow
    | init =>
      exact .inr (State.pulse_of_tracking ((State.testInitEnd_tracking _).trans (State.answerHeld_tracking s.initTaken)))

theorem State.commandWrite_pulse (code : BitVec 8) : s.Beats (s.commandWrite code) ∨ (s.commandWrite code).pulse = s.pulse := by
  unfold State.commandWrite
  split
  · exact s.command_pulse _
  · exact .inr (State.pulse_ite rfl rfl)

/-- A register write delivers a beat by the command register alone; a failover delivers none (R150, R156). -/
theorem State.writeReg_pulse (g : Reg) (v : Word) : s.Beats (s.writeReg g v) ∨ (s.writeReg g v).pulse = s.pulse := by
  cases g with
  | command => exact s.commandWrite_pulse _
  | descriptor w i => exact .inr (State.pulse_of_tracking (s.writeDescriptor_tracking w i v))
  | flags => exact .inr (State.pulse_ite (State.pulse_ite (s := s) rfl rfl) (State.pulse_ite rfl rfl))
  | holdLimit | minimumGap | internalPeriod | failoverEnable => exact .inr (State.pulse_ite rfl rfl)
  | trackerConfig tr => exact .inr (s.writeTrackerConfig_pulse tr v)
  | trackerEnable tr => exact .inr (s.writeTrackerEnable_pulse tr v)
  | _ => exact .inr rfl

end Quiet

/-! ### Every step -/

/-- A command but a hardware reset makes candidates, as `State.Beats` says, or delivers no beat. -/
theorem exec_pulse {c : Instr} (hc : c ≠ .hardwareReset) (h : exec c s = .next t) : s.Beats t ∨ t.pulse = s.pulse := by
  have start : s.Beats s := .refl
  cases c <;> obtain rfl := Host.Outcome.next.inj h
  case hardwareReset => exact absurd rfl hc
  case hostSideRequest r => exact .inr (State.pulse_of_tracking (State.takePresented_tracking { s with hostBus := s.hostBus ++ [r] }))
  case hostOriginCompletion n a => exact .inr (State.pulse_of_tracking (s.hostCompletion_tracking n a))
  case drainCompletion l a => exact .inr (State.pulse_of_tracking (s.drainCompletion_tracking l a))
  case holdTimeout n =>
    split
    · exact .inr (State.pulse_of_tracking (s.timeout_tracking _))
    · exact .inr rfl
  case beatEdge tr => exact .inl ((start.takeOverdue tr 8).edge tr)
  case trackerMiss tr =>
    split
    · exact .inl (start.miss tr)
    · exact .inl start
  case internalCandidate =>
    split
    · exact .inl start.internalTick
    · exact .inl start
  case initEnd => exact .inr (State.pulse_of_tracking s.testInitEnd_tracking)
  case undefinedCommand code => exact s.commandWrite_pulse code
  case descriptorWrite w i d => exact s.writeReg_pulse (.descriptor w i) _
  case holdLimitWrite d => exact s.writeReg_pulse .holdLimit _
  case minimumGapWrite d => exact s.writeReg_pulse .minimumGap _
  case internalPeriodWrite d => exact s.writeReg_pulse .internalPeriod _
  case failoverEnableWrite d => exact s.writeReg_pulse .failoverEnable _
  case trackerConfigurationWrite tr d => exact s.writeReg_pulse (.trackerConfig tr) _
  case trackerEnableSet tr => exact s.writeReg_pulse (.trackerEnable tr) 1
  case trackerEnableClear tr => exact s.writeReg_pulse (.trackerEnable tr) 0
  case registerWrite o d =>
    unfold State.busWrite
    split
    · exact s.writeReg_pulse _ _
    · exact .inr rfl
  case openWindow => exact s.command_pulse .openW
  case closeWindow => exact s.command_pulse .closeW
  case selectSource => exact s.command_pulse .selectSource
  case beatNow => exact s.command_pulse .beatNow
  case initCommand => exact s.command_pulse .init
  all_goals exact .inr rfl

theorem State.idle_pulse (s : State) : s.Beats s.idle ∨ s.idle.pulse = s.pulse := by
  have start : s.Beats s := .refl
  unfold State.idle
  split
  · exact .inl (start.miss .a)
  · split
    · exact .inl (start.miss .b)
    · split
      · exact .inr (State.pulse_of_tracking (s.timeout_tracking _))
      · split
        · exact .inl start.internalTick
        · split
          · exact .inr (State.pulse_of_tracking s.takePresented_tracking)
          · exact .inr rfl

/-- The beat number and the time of the last delivered beat stay, or move together by one beat that keeps the minimum gap (R145). -/
def State.keepsGap (s t : State) : Prop :=
  (t.sel.beatNumber = s.sel.beatNumber ∧ t.sel.lastDelivered = s.sel.lastDelivered) ∨
    (t.sel.beatNumber = s.sel.beatNumber + 1 ∧ t.sel.lastDelivered = some s.timeBase ∧
      ∀ d, s.sel.lastDelivered = some d → d + s.sel.gap.toNat ≤ s.timeBase)

/-- Of the candidates of one step at most one is delivered, for the minimum gap shuts out a second (R144). -/
theorem State.Beats.keepsGap (h : s.Beats t) (hg : 10 ≤ s.sel.gap.toNat) : s.keepsGap t := by
  induction h with
  | refl => exact .inl ⟨rfl, rfl⟩
  | beside _ _ hbeat ih =>
    obtain ⟨-, hnumber, hlast, -⟩ := hbeat
    unfold State.keepsGap at ih ⊢
    rwa [hnumber, hlast]
  | @offer u c hb ih =>
    obtain ⟨htime, hgap, -⟩ := hb.commits hg 0
    rcases u.offer_beat c with ⟨hnumber, hlast⟩ | ⟨hnumber, hlast, hpass⟩
    · unfold State.keepsGap at ih ⊢
      rwa [hnumber, hlast]
    · rcases ih with ⟨hnumber', hlast'⟩ | ⟨-, hlast', -⟩
      · refine .inr ⟨by rw [hnumber, hnumber'], by rw [hlast, htime], fun d hd => ?_⟩
        simpa [Selector.gapPasses, hlast', hd, hgap, htime] using hpass
      · rw [htime, State.gapPasses_again hlast' (hgap ▸ hg)] at hpass
        cases hpass

theorem State.keepsGap_of_pulse (hg : 10 ≤ s.sel.gap.toNat) (h : s.Beats t ∨ t.pulse = s.pulse) : s.keepsGap t :=
  h.elim (·.keepsGap hg) fun hp => .inl (Prod.ext_iff.mp hp)

/-- Settles O16: a step makes candidates, of which one at most is delivered (`State.Beats.keepsGap`), or delivers no beat (`exec_pulse`,
`State.idle_pulse`). -/
theorem beatsKeepTheGap : Obligations.BeatsKeepTheGap := by
  intro s t ⟨_, hgap, _⟩ hst
  rcases hp : s.pending with _ | ⟨c, rest⟩
  · rw [step_idle hp] at hst
    obtain rfl := Host.Outcome.next.inj hst
    exact (State.keepsGap_of_pulse hgap s.idle_pulse).imp_right .inl
  · rw [step_front hp] at hst
    by_cases hc : c = .hardwareReset
    · subst hc
      obtain rfl := Host.Outcome.next.inj hst
      exact .inr (.inr ⟨rest, rfl, rfl, rfl⟩)
    · exact (State.keepsGap_of_pulse (s := { s with pending := rest }) hgap (exec_pulse hc hst)).imp_right .inl

end Sys2Proof.Machine
end

section
/-! The selector's commands and candidates: SELECT_SOURCE (R147), the generator's candidate (R143), BEAT_NOW (R149) and the failover enable
(R150, R151). -/

namespace Sys2Proof.Machine

variable {s : State}

/-! ### Candidates (R142 to R145) -/

/-- A candidate leaves the management port as it was (R142). -/
@[simp] theorem State.offer_port (s : State) (c : Source) : (s.offer c).2.port = s.port := by
  rcases s.offer_cases c with ⟨e, -⟩ | ⟨e, -⟩ | ⟨-, -, -, e⟩ | ⟨-, -, -, -, e⟩ <;> rw [e]
  · rw [State.evalBeat_port]
  · rw [State.evalBeat_port, State.notify_port]

/-- The generator at its next time: it schedules the next candidate, and offers this one (R143). -/
def State.scheduleNext (s : State) : State := { s with sel := { s.sel with nextTime := s.timeBase + s.sel.period.toNat } }

theorem State.internalTick_eq (s : State) : s.internalTick = (s.scheduleNext.offer .internal).2 := rfl

/-- What a candidate makes of C and of the beat number does not depend on the generator's next time (R145, R148). -/
theorem Selector.afterCandidate_nextTime (k : Selector) (c : Source) (t n : Time) :
    (({ k with nextTime := n } : Selector).afterCandidate c t).current = (k.afterCandidate c t).current ∧
      (({ k with nextTime := n } : Selector).afterCandidate c t).beatNumber = (k.afterCandidate c t).beatNumber := by
  unfold Selector.afterCandidate
  dsimp only
  split <;> exact ⟨rfl, rfl⟩

theorem State.scheduleNext_afterBeat_notif (s : State) (x : Source) : (s.scheduleNext.afterBeat x).notif = (s.afterBeat x).notif := by
  obtain ⟨hcurrent, hbeat⟩ := s.sel.afterCandidate_nextTime x s.timeBase (s.timeBase + s.sel.period.toNat)
  rw [State.afterBeat_notif_eq, State.afterBeat_notif_eq]
  unfold State.scheduleNext
  dsimp only
  rw [hcurrent, hbeat]

/-- Settles O44: the candidate is offered once the next one is scheduled; the selector follows it (`State.offer_sel`), and a beat that changes
no window changes nothing else (`State.noFrame.offer`). -/
theorem internalCandidates : Obligations.InternalCandidates := by
  intro s hnext
  obtain ⟨hsel, hkept⟩ := s.scheduleNext.offer_sel .internal
  refine ⟨_, exec_internalCandidate_due hnext, hsel, s.internalTick_timeBase, s.scheduleNext.offer_tracker .internal .a,
    s.scheduleNext.offer_tracker .internal .b, s.scheduleNext.offer_port .internal, fun hbeat => ?_, fun hframe => ?_⟩
  · rw [State.internalTick_eq, hkept hbeat]
    rfl
  · have hframe : s.scheduleNext.noFrame := hframe
    rw [State.internalTick_eq, hframe.offer, State.scheduleNext_afterBeat_notif]
    rfl

/-! ### Commands of the slot -/

theorem exec_selectSource (hb : s.port.busy = false) :
    exec .selectSource s = .next (complete .selectSource (s.selectSource s.port.argument.source)) :=
  congrArg Host.Outcome.next (State.command_free hb .selectSource)

/-- A source whose tracker is not DISABLED, or that has none, may become P (R147). -/
theorem State.selectSource_target {c : Source} (hc : c ≠ s.sel.current)
    (hon : ∀ tr : BeatLine, c = tr.source → (s.tracker tr).state ≠ .disabled) :
    s.selectSource c = (.done, { s with sel := { s.sel with target := some c } }) := by
  unfold State.selectSource
  rw [if_neg hc]
  split
  · next hline => exact if_neg (hon _ (Source.line?_eq hline))
  · rfl

/-- Settles O49: C drops the pending target, a source whose tracker is DISABLED is refused, and any other becomes P. -/
theorem selectSourceFollowsTheTable : Obligations.SelectSourceFollowsTheTable := by
  rintro s c hb rfl
  rw [exec_selectSource hb]
  refine ⟨fun hc => ?_, fun tr htr hc hoff => ?_, fun hc hon => ?_⟩
  · rw [State.selectSource, if_pos hc]
    rfl
  · have hline : s.port.argument.source.line? = some tr := by rw [htr]; cases tr <;> rfl
    rw [State.selectSource, if_neg hc, hline]
    dsimp only
    rw [if_pos hoff]
    rfl
  · rw [State.selectSource_target hc hon]
    rfl

theorem exec_beatNow (hb : s.port.busy = false) : exec .beatNow s = .next (complete .beatNow s.beatNow) :=
  congrArg Host.Outcome.next (State.command_free hb .beatNow)

/-- Within the minimum gap a candidate of C or of P is suppressed (R144). -/
theorem State.offer_suppressed {c : Source} {d : Time} (hc : s.sel.current = c ∨ s.sel.target = some c)
    (hd : s.sel.lastDelivered = some d) (hgap : s.timeBase < d + s.sel.gap.toNat) : s.offer c = (.suppressed, s) := by
  have hfails : s.sel.gapPasses s.timeBase = false := by simpa [Selector.gapPasses, hd] using hgap
  rcases s.offer_cases c with ⟨-, hcur, htgt⟩ | ⟨e, -⟩ | ⟨-, -, hpass, -⟩ | ⟨-, -, -, hpass, -⟩
  · exact absurd hc (not_or.mpr ⟨fun e => hcur e.symm, htgt⟩)
  · exact e
  · cases hfails.symm.trans hpass
  · cases hfails.symm.trans hpass

/-- Settles O50: a SOFT candidate of C or of P is suppressed within the gap (`State.offer_suppressed`) and else delivered
(`State.offer_delivers`), and the selector follows it. -/
theorem beatNowOffersASoftCandidate : Obligations.BeatNowOffersASoftCandidate := by
  refine fun s hb => ⟨fun hcur htgt => ?_, fun hc => ⟨fun d hd hgap => ?_, fun hgap => ?_⟩⟩
  · rw [exec_beatNow hb, State.beatNow, if_neg (not_or.mpr ⟨hcur, htgt⟩)]
    rfl
  · rw [exec_beatNow hb, State.beatNow, if_pos hc, State.offer_suppressed hc hd hgap]
    rfl
  · have hdelivers : s.sel.delivers .soft s.timeBase := ⟨hc.imp_left Eq.symm, hgap⟩
    obtain ⟨k, -, hoffer⟩ := State.offer_delivers hdelivers s.trackerA s.trackerB s.sel.nextTime
    obtain ⟨u, ho⟩ : ∃ u, s.offer .soft = (.delivered, u) := ⟨_, hoffer⟩
    have hu : (s.offer .soft).2 = u := congrArg Prod.snd ho
    have hport := hu ▸ s.offer_port .soft
    have hsel := hu ▸ (s.offer_sel .soft).1
    refine ⟨_, exec_beatNow_delivers hb hc ho, by rw [hport], hsel, by rw [hsel, hdelivers.afterCandidate.1], fun hframe => ?_⟩
    obtain rfl := hu.symm.trans (hframe.offer .soft)
    rfl

/-! ### The failover enable (R150, R151) -/

theorem exec_failoverEnableWrite (v : Word) : exec (.failoverEnableWrite ⟨v, 0xF⟩) s = .next (s.writeFailover v) := by
  show Host.Outcome.next (s.writeFailover (s.mergeWrite .failoverEnable ⟨v, 0xF⟩)) = _
  rw [State.mergeWrite_full]

/-- C has lost its lock if it is external and its tracker does not hold lock (R151). -/
theorem State.currentLost_iff :
    s.currentLost = true ↔ ∃ tr : BeatLine, s.sel.current = tr.source ∧ (s.tracker tr).holdsLock = false := by
  constructor
  · intro h
    unfold State.currentLost at h
    split at h
    · next tr hline => exact ⟨tr, Source.line?_eq hline, by simpa using h⟩
    · cases h
  · rintro ⟨tr, hc, hl⟩
    rw [State.currentLost_eq hc, hl]
    rfl

/-- Settles O57: the enable is written, and C's lock then decides whether the write makes a failover (`State.currentLost_iff`). -/
theorem failoverEnableWrites : Obligations.FailoverEnableWrites := by
  refine fun s v => ⟨fun hstays => ?_, fun tr d hset hc hlock hd => ?_⟩
  · rw [exec_failoverEnableWrite, State.writeFailover]
    refine congrArg Host.Outcome.next (if_neg fun hfails => ?_)
    obtain ⟨hset, hlost⟩ := Bool.and_eq_true _ _ ▸ hfails
    obtain ⟨tr, hc, hl⟩ := State.currentLost_iff.mp hlost
    have hholds := Tracker.holdsLock_iff.mpr (hstays.resolve_left (by simp [hset]) tr hc)
    cases hl.symm.trans hholds
  · have hlost : ({ s with sel := { s.sel with failoverEnable := true } } : State).currentLost = true :=
      State.currentLost_iff.mpr ⟨tr, hc, Bool.eq_false_iff.mpr (mt Tracker.holdsLock_iff.mp hlock)⟩
    rw [exec_failoverEnableWrite, State.writeFailover, hset]
    refine congrArg Host.Outcome.next ((if_pos hlost).trans ?_)
    rw [State.failover]
    dsimp only
    rw [hd, hc]
    rfl

end Sys2Proof.Machine
end

section
/-! SUPPORT. The register window: where its registers lie (R156, R158), and the number that a word of fields shows (R159). -/

namespace Sys2Proof.Machine

variable {s : State}

/-! ### Offsets (R156, R158) -/

/-- An offset with its two lowest bits cleared, as a number. -/
theorem offset_aligned (o : BitVec 12) : (o &&& 0xFFC).toNat = o.toNat - o.toNat % 4 := by
  have hshift : o &&& (0xFFC : BitVec 12) = (o >>> 2) <<< 2 := by
    refine BitVec.eq_of_getLsbD_eq fun i hi => ?_
    rw [BitVec.getLsbD_and, BitVec.getLsbD_shiftLeft, BitVec.getLsbD_ushiftRight]
    match i with
    | 0 | 1 | 2 | 3 | 4 | 5 | 6 | 7 | 8 | 9 | 10 | 11 => simp
  rw [hshift, BitVec.toNat_shiftLeft, BitVec.toNat_ushiftRight, Nat.shiftRight_eq_div_pow, Nat.shiftLeft_eq]
  have := o.isLt
  omega

/-- The two lowest bits of an offset are ignored (R156). -/
theorem regAt_aligned (o : BitVec 12) : regAt (o &&& 0xFFC) = regAt o := by
  have hword : (o &&& 0xFFC).toNat - (o &&& 0xFFC).toNat % 4 = o.toNat - o.toNat % 4 := by
    rw [offset_aligned]
    omega
  unfold regAt
  rw [hword]

theorem State.readOffset_of {o : BitVec 12} {g : Reg} (h : regAt o = some g) : s.readOffset o = s.readReg g := by
  rw [State.readOffset, h]

theorem State.shows_of {o : Nat} {g : Reg} (h : regAt (BitVec.ofNat 12 o) = some g) : s.shows o = (s.readReg g).toNat :=
  congrArg BitVec.toNat (State.readOffset_of h)

/-- The per-window blocks: the words of the descriptors and of the status records (R158). -/
theorem windowReg_word (f : WindowId → Fin 6 → Reg) (w : WindowId) (i : Fin 6) : windowReg f (8 * w.val + i.val) = some (f w i) := by
  have hw : (8 * w.val + i.val) / 8 = w.val := by omega
  have hi : (8 * w.val + i.val) % 8 = i.val := by omega
  unfold windowReg
  rw [dif_pos (by omega)]
  simp only [hw, hi]

theorem regAt_descriptor (w : WindowId) (i : Fin 6) :
    regAt (BitVec.ofNat 12 (0x100 + 0x20 * w.val + 4 * i.val)) = some (.descriptor w i) := by
  have ho : (BitVec.ofNat 12 (0x100 + 0x20 * w.val + 4 * i.val)).toNat = 0x100 + 4 * (8 * w.val + i.val) := by
    rw [BitVec.toNat_ofNat]
    omega
  have hword : (0x100 + 4 * (8 * w.val + i.val) - (0x100 + 4 * (8 * w.val + i.val)) % 4 - 0x100) / 4 = 8 * w.val + i.val := by omega
  unfold regAt
  dsimp only
  rw [ho, if_neg (by omega), if_pos (by omega), hword, windowReg_word]

theorem regAt_status (w : WindowId) (i : Fin 6) :
    regAt (BitVec.ofNat 12 (0x300 + 0x20 * w.val + 4 * i.val)) = some (.status w i) := by
  have ho : (BitVec.ofNat 12 (0x300 + 0x20 * w.val + 4 * i.val)).toNat = 0x300 + 4 * (8 * w.val + i.val) := by
    rw [BitVec.toNat_ofNat]
    omega
  have hword : (0x300 + 4 * (8 * w.val + i.val) - (0x300 + 4 * (8 * w.val + i.val)) % 4 - 0x300) / 4 = 8 * w.val + i.val := by omega
  unfold regAt
  dsimp only
  rw [ho, if_neg (by omega), if_neg (by omega), if_pos (by omega), hword, windowReg_word]

/-! ### Words of fields (R159) -/

theorem field_toNat {n lo : Nat} (h : n * 2 ^ lo < 2 ^ 32) : (field n lo).toNat = n * 2 ^ lo := by
  have hn : n < 2 ^ 32 := Nat.lt_of_le_of_lt (Nat.le_mul_of_pos_right n (Nat.two_pow_pos lo)) h
  rw [field, BitVec.toNat_shiftLeft, BitVec.toNat_ofNat, Nat.mod_eq_of_lt hn, Nat.shiftLeft_eq, Nat.mod_eq_of_lt h]

/-- The lowest field is the number it holds. -/
theorem lowField_toNat {n : Nat} (h : n < 2 ^ 32) : (field n 0).toNat = n := by
  rw [field_toNat (by rwa [Nat.pow_zero, Nat.mul_one]), Nat.pow_zero, Nat.mul_one]

/-- A field above the bits that a word uses adds its number there. -/
theorem or_field_toNat {v : Word} {m n lo : Nat} (hv : v.toNat = m) (hm : m < 2 ^ lo) (h : n * 2 ^ lo < 2 ^ 32) :
    (v ||| field n lo).toNat = m + 2 ^ lo * n := by
  subst hv
  rw [BitVec.toNat_or, field_toNat h, Nat.or_comm, Nat.mul_comm, ← Nat.two_pow_add_eq_or_of_lt hm, Nat.add_comm]

theorem flag_toNat (b : Bool) : (flag b 0).toNat = b.toNat :=
  lowField_toNat (Nat.lt_of_le_of_lt b.toNat_le (by decide))

/-! ### Codes (R159) -/

theorem Readiness.code_lt (m : Readiness) : m.code < 4 := by cases m <;> decide
theorem ExhaustionPolicy.code_lt (p : ExhaustionPolicy) : p.code < 4 := by cases p <;> decide
theorem LatePolicy.code_lt (p : LatePolicy) : p.code < 2 := by cases p <;> decide
theorem CloseMode.code_lt (m : CloseMode) : m.code < 2 := by cases m <;> decide
theorem WindowState.code_lt (w : WindowState) : w.code < 4 := by cases w <;> decide
theorem TrackerState.code_lt (x : TrackerState) : x.code < 8 := by cases x <;> decide
theorem Source.code_lt (c : Source) : c.code < 4 := by cases c <;> decide
theorem ResultCode.code_lt (r : ResultCode) : r.code < 8 := by cases r <;> decide
theorem CommandName.code_lt (c : CommandName) : c.code < 8 := by cases c <;> decide
theorem NotifKind.code_lt (k : NotifKind) : k.code < 16 := by cases k <;> decide

theorem closeCode_lt (m : Option CloseMode) : closeCode m < 4 := by
  rcases m with _ | m
  · decide
  · cases m <;> decide

theorem Subject.code_lt (u : Subject) : u.code < 16 := by
  cases u with
  | window w => exact w.isLt
  | source c => exact c.code_lt.trans (by decide)
  | initiator i => exact i.isLt

/-- Every code is that of the table (R159). -/
theorem codesOfTheTable : codesAreThoseOfTheTable :=
  ⟨rfl, rfl, rfl, rfl, rfl, rfl, rfl, rfl, rfl, rfl, rfl, fun _ => rfl, fun _ => rfl, fun _ => rfl⟩

end Sys2Proof.Machine
end

section
/-! What a read of the register window shows (R156, R158, R159, R175). -/

namespace Sys2Proof.Machine

variable (s : State)

/-! ### The global registers and the command slot -/

/-- The settings, and the flags (R158, R159). -/
theorem State.settings_show :
    s.shows 0x004 = s.port.ignoredWrite.toNat + 2 * s.port.refusedBusy.toNat ∧ s.shows 0x008 = s.holdLimit.toNat ∧
      s.shows 0x00C = s.sel.gap.toNat ∧ s.shows 0x010 = s.sel.period.toNat ∧ s.shows 0x014 = s.sel.failoverEnable.toNat := by
  have hi := s.port.ignoredWrite.toNat_lt
  have hb := s.port.refusedBusy.toNat_lt
  have hlimit := s.holdLimit.isLt
  have hgap := s.sel.gap.isLt
  have hperiod := s.sel.period.isLt
  refine ⟨?_, ?_, ?_, ?_, ?_⟩
  · exact (State.shows_of (g := .flags) rfl).trans (or_field_toNat (lowField_toNat (by omega)) (by omega) (by omega))
  · exact (State.shows_of (g := .holdLimit) rfl).trans (lowField_toNat (by omega))
  · exact (State.shows_of (g := .minimumGap) rfl).trans (lowField_toNat (by omega))
  · exact (State.shows_of (g := .internalPeriod) rfl).trans (lowField_toNat (by omega))
  · exact (State.shows_of (g := .failoverEnable) rfl).trans (flag_toNat _)

/-- The word of the selector status, with P absent and present (R154, R159). -/
theorem selectorStatus_word (c : Source) :
    ((field c.code 0 ||| 0).toNat % 4 = c.code ∧ (field c.code 0 ||| 0).getLsbD 7 = false) ∧
      ∀ p : Source, (field c.code 0 ||| (field p.code 4 ||| flag true 7)).toNat = c.code + 16 * p.code + 128 ∧
        (field c.code 0 ||| (field p.code 4 ||| flag true 7)).getLsbD 7 = true := by
  cases c <;> exact ⟨by decide, fun p => by cases p <;> decide⟩

theorem State.selectorStatus_shows :
    s.shows 0x040 % 4 = s.sel.current.code ∧ (s.readOffset 0x040).getLsbD 7 = s.sel.target.isSome ∧
      ∀ c, s.sel.target = some c → s.shows 0x040 = s.sel.current.code + 16 * c.code + 128 := by
  obtain ⟨⟨habsent, hclear⟩, hpresent⟩ := selectorStatus_word s.sel.current
  have hread : s.readOffset 0x040 = s.readReg .selectorStatus := rfl
  have hshow : s.shows 0x040 = (s.readReg .selectorStatus).toNat := rfl
  rw [hread, hshow, State.readReg]
  rcases s.sel.target with _ | p
  · exact ⟨habsent, hclear, nofun⟩
  · obtain ⟨hword, hset⟩ := hpresent p
    have := s.sel.current.code_lt
    refine ⟨?_, hset, fun c e => by cases e; exact hword⟩
    dsimp only
    rw [hword]
    omega

/-- The argument, the result and the busy flag (R159, R162, R163). -/
theorem State.slot_shows :
    s.shows 0x054 =
        s.port.argument.window.val + 2 ^ 8 * s.port.argument.mode.code + 2 ^ 16 * s.port.argument.source.code ∧
      (∀ r c, s.port.result = some (r, c) → s.shows 0x058 = r.code + 256 * c.code) ∧
      (s.port.result = none → s.shows 0x058 % 8 = 0) ∧ s.shows 0x05C = s.port.busy.toNat := by
  have hresult : s.shows 0x058 = (s.readReg .result).toNat := State.shows_of rfl
  rw [hresult, State.readReg]
  refine ⟨?_, fun r c h => ?_, fun h => ?_, ?_⟩
  · have hw := s.port.argument.window.isLt
    have hm := s.port.argument.mode.code_lt
    have hc := s.port.argument.source.code_lt
    exact (State.shows_of (g := .argument) rfl).trans
      (or_field_toNat (or_field_toNat (lowField_toNat (by omega)) (by omega) (by omega)) (by omega) (by omega))
  · have hr := r.code_lt
    have hc := c.code_lt
    rw [h]
    exact or_field_toNat (lowField_toNat (by omega)) (by omega) (by omega)
  · rw [h]
    rfl
  · exact (State.shows_of (g := .busy) rfl).trans (flag_toNat _)

theorem State.globals_show : s.globalsShow := by
  obtain ⟨hflags, hlimit, hgap, hperiod, henable⟩ := s.settings_show
  obtain ⟨hargument, hresult, hnone, hbusy⟩ := s.slot_shows
  have hfree : s.freeCount < 2 ^ 32 := Nat.lt_of_le_of_lt (Nat.sub_le _ _) (by decide)
  exact ⟨rfl, hflags, hlimit, hgap, hperiod, henable, s.selectorStatus_shows, rfl,
    (State.shows_of (g := .freeCount) rfl).trans (lowField_toNat hfree), rfl, hargument, hresult, hnone, hbusy⟩

/-! ### The trackers -/

theorem State.tracker_shows {tr : BeatLine} {o : Nat} (hl : (s.tracker tr).lawful)
    (hconfig : regAt (BitVec.ofNat 12 o) = some (.trackerConfig tr))
    (henable : regAt (BitVec.ofNat 12 (o + 4)) = some (.trackerEnable tr))
    (hstatus : regAt (BitVec.ofNat 12 (o + 8)) = some (.trackerStatus tr))
    (hperiod : regAt (BitVec.ofNat 12 (o + 12)) = some (.trackerPeriod tr)) : s.trackerShows tr o := by
  obtain ⟨-, -, -, -, -, -, hrange, hearly⟩ := hl
  have htol := (s.tracker tr).tolerance.isLt
  have hqual := (s.tracker tr).qualCount.isLt
  have hlimit := (s.tracker tr).missLimit.isLt
  have hstate := (s.tracker tr).state.code_lt
  have hlearned : (s.tracker tr).refPeriod.getD 0 ≤ 1000000 := by
    rcases h : (s.tracker tr).refPeriod with _ | p
    · exact Nat.zero_le _
    · exact (hrange p h).2
  refine ⟨?_, ?_, ?_, ?_⟩
  · exact (State.shows_of hconfig).trans
      (or_field_toNat (or_field_toNat (lowField_toNat (by omega)) (by omega) (by omega)) (by omega) (by omega))
  · exact (State.shows_of henable).trans (flag_toNat _)
  · exact (State.shows_of hstatus).trans (or_field_toNat (lowField_toNat (by omega)) (by omega) (by omega))
  · exact (State.shows_of hperiod).trans (lowField_toNat (by omega))

/-! ### The windows -/

/-- The two words of a line address (R159). -/
theorem line_words (l : Line) : (field (l.toNat % 2 ^ 26) 6).toNat + 2 ^ 32 * (field (l.toNat / 2 ^ 26) 0).toNat = 64 * l.toNat := by
  have hl := l.isLt
  rw [field_toNat (by omega), lowField_toNat (by omega)]
  omega

theorem State.descriptor_shows (w : WindowId) : s.descriptorShows w := by
  have word : ∀ i : Fin 6, s.shows (0x100 + 0x20 * w.val + 4 * i.val) = ((s.window w).desc.word i).toNat := fun i =>
    State.shows_of (regAt_descriptor w i)
  have hsize := (s.window w).desc.size.isLt
  have hinterval := (s.window w).desc.interval.isLt
  have hreadiness := (s.window w).desc.readiness.code_lt
  have hcount := (s.window w).desc.readyCount.isLt
  have hlate := (s.window w).desc.late.code_lt
  have hexhaustion := (s.window w).desc.exhaustion.code_lt
  have htally := (s.window w).desc.tally.toNat_lt
  have hnotify := (s.window w).desc.notifyCommit.toNat_lt
  have hquota := (s.window w).desc.quota.isLt
  have hreserve := (s.window w).desc.reserve.isLt
  have hproducers := (s.window w).desc.producers.isLt
  refine ⟨?_, (word 2).trans ?_, (word 3).trans ?_, (word 4).trans ?_, (word 5).trans ?_⟩
  · exact (congrArg₂ (fun a b => a + 2 ^ 32 * b) (word 0) (word 1)).trans (line_words (s.window w).desc.base)
  · exact or_field_toNat (or_field_toNat (lowField_toNat (by omega)) (by omega) (by omega)) (by omega) (by omega)
  · exact or_field_toNat (or_field_toNat (or_field_toNat (or_field_toNat (lowField_toNat (by omega)) (by omega) (by omega))
      (by omega) (by omega)) (by omega) (by omega)) (by omega) (by omega)
  · exact or_field_toNat (lowField_toNat (by omega)) (by omega) (by omega)
  · exact lowField_toNat (by omega)

theorem State.status_shows {w : WindowId} (hl : (s.window w).lawful) (hr : s.reserveKept) : s.statusShows w := by
  have word : ∀ i : Fin 6, s.shows (0x300 + 0x20 * w.val + 4 * i.val) = ((s.window w).statusWord (s.inUse w) i).toNat := fun i =>
    State.shows_of (regAt_status w i)
  obtain ⟨-, -, -, -, -, -, -, hlate, hslips, hexhaustions, htimeouts, hfaults⟩ := hl
  have hstate := (s.window w).state.code_lt
  have hmode := closeCode_lt (s.window w).closeMode
  have huse : s.inUse w ≤ 512 := List.countP_le_length.trans hr.1
  refine ⟨(word 0).trans ?_, word 1, word 2, (word 3).trans ?_, (word 4).trans ?_, (word 5).trans ?_⟩
  · exact or_field_toNat (or_field_toNat (lowField_toNat (by omega)) (by omega) (by omega)) (by omega) (by omega)
  · exact or_field_toNat (lowField_toNat (by omega)) (by omega) (by omega)
  · exact or_field_toNat (lowField_toNat (by omega)) (by omega) (by omega)
  · exact lowField_toNat (by omega)

/-! ### The notification unit -/

theorem regAt_head : ∀ i : Fin 5, regAt (BitVec.ofNat 12 (0x080 + 4 * i.val)) = some (.head i) := by decide

theorem NotifRecord.word_toNat {x : NotifRecord} (hx : x.count ≤ 65535) :
    (x.word 0).toNat =
        x.kind.code + 2 ^ 8 * x.subject.code + 2 ^ 16 * x.line.isSome.toNat + 2 ^ 17 * x.initiator.isSome.toNat + 2 ^ 31 ∧
      (x.word 4).toNat = (x.initiator.getD 0).val + 2 ^ 16 * x.count := by
  have hkind := x.kind.code_lt
  have hsubject := x.subject.code_lt
  have hline := x.line.isSome.toNat_lt
  have hinitiator := x.initiator.isSome.toNat_lt
  have hi := (x.initiator.getD 0).isLt
  constructor
  · exact or_field_toNat (n := 1) (or_field_toNat (or_field_toNat (or_field_toNat (lowField_toNat (by omega)) (by omega) (by omega))
      (by omega) (by omega)) (by omega) (by omega)) (by omega) (by omega)
  · exact or_field_toNat (lowField_toNat (by omega)) (by omega) (by omega)

theorem State.notifications_show (hl : s.notif.lawful) (hc : s.notif.counted) : s.notificationsShow := by
  obtain ⟨hlength, -⟩ := hl
  obtain ⟨hcounts, hoverflow⟩ := hc
  have word : ∀ i : Fin 5, s.shows (0x080 + 4 * i.val) = (s.readReg (.head i)).toNat := fun i => State.shows_of (regAt_head i)
  have hmask := s.notif.mask.isLt
  refine ⟨fun h i hi => ?_, fun x q h => ?_, ?_, rfl, ?_, ?_, ?_⟩
  · rw [word ⟨i, hi⟩, State.readReg, h]
    rfl
  · have shown : ∀ i : Fin 5, s.shows (0x080 + 4 * i.val) = (x.word i).toNat := fun i => by
      rw [word i, State.readReg, h]
      rfl
    obtain ⟨hfirst, hlast⟩ := NotifRecord.word_toNat (hcounts x (h ▸ List.mem_cons_self))
    exact ⟨(shown 0).trans hfirst, shown 1,
      (congrArg₂ (fun a b => a + 2 ^ 32 * b) (shown 2) (shown 3)).trans (line_words (x.line.getD 0)), (shown 4).trans hlast⟩
  · exact (State.shows_of (g := .queueCount) rfl).trans (lowField_toNat (by omega))
  · exact (State.shows_of (g := .kindMask) rfl).trans (by rw [State.readReg, BitVec.toNat_setWidth_of_le (by decide)])
  · exact (State.shows_of (g := .overflowCount) rfl).trans (lowField_toNat (by omega))
  · exact (State.shows_of (g := .interruptEnable) rfl).trans (flag_toNat _)

end Sys2Proof.Machine
end

section
/-! The writes of the register window: merged by byte lanes, and judged as the word they give (R156). -/

namespace Sys2Proof.Machine

variable {s : State}

/-! ### Merged words and their registers (R156) -/

/-- Byte by byte: the byte written where its lane is enabled, and else the byte a read shows (R156). -/
theorem State.mergeWrite_byte (s : State) (g : Reg) (d : BusWrite) (i : Fin 4) :
    (s.mergeWrite g d).extractLsb' (8 * i.val) 8 =
      if d.lanes.getLsbD i.val then d.value.extractLsb' (8 * i.val) 8 else (s.readReg g).extractLsb' (8 * i.val) 8 := by
  refine BitVec.eq_of_getLsbD_eq fun j hj => ?_
  have hlane : (8 * i.val + j) / 8 = i.val := by omega
  rw [BitVec.getLsbD_extractLsb', State.mergeWrite_getLsbD s g d _ (by omega), hlane]
  split <;> rw [BitVec.getLsbD_extractLsb']

theorem exec_registerWrite {o : BitVec 12} {g : Reg} (h : regAt o = some g) (d : BusWrite) :
    exec (.registerWrite o d) s = .next (s.writeReg g (s.mergeWrite g d)) := by
  show Host.Outcome.next (s.busWrite o d) = _
  rw [State.busWrite, h]

/-- A write with all lanes enabled is judged as the word it carries (R156). -/
theorem exec_registerWrite_full {o : BitVec 12} {g : Reg} (h : regAt o = some g) (v : Word) :
    exec (.registerWrite o ⟨v, 0xF⟩) s = .next (s.writeReg g v) := by
  rw [exec_registerWrite h, State.mergeWrite_full]

theorem exec_registerWrite_merged {o : BitVec 12} {g : Reg} (h : regAt o = some g) (d : BusWrite) :
    exec (.registerWrite o d) s = exec (.registerWrite o ⟨s.mergeWrite g d, 0xF⟩) s := by
  rw [exec_registerWrite h, exec_registerWrite_full h]

theorem exec_registerWrite_aligned (o : BitVec 12) (d : BusWrite) :
    exec (.registerWrite o d) s = exec (.registerWrite (o &&& 0xFFC) d) s ∧ s.readOffset o = s.readOffset (o &&& 0xFFC) := by
  constructor
  · show Host.Outcome.next (s.busWrite o d) = .next (s.busWrite (o &&& 0xFFC) d)
    rw [State.busWrite, State.busWrite, regAt_aligned]
  · rw [State.readOffset, State.readOffset, regAt_aligned]

theorem exec_registerWrite_unmapped {o : BitVec 12} (h : regAt o = none) (d : BusWrite) :
    s.readOffset o = 0 ∧ exec (.registerWrite o d) s = .next s := by
  constructor
  · rw [State.readOffset, h]
  · show Host.Outcome.next (s.busWrite o d) = _
    rw [State.busWrite, h]

/-- The registers that a write leaves unchanged (R158). -/
def Reg.isReadOnly (g : Reg) : Prop :=
  g = .identification ∨ g = .selectorStatus ∨ g = .beatNumber ∨ g = .freeCount ∨ g = .result ∨ g = .busy ∨ g = .queueCount ∨
    (∃ tr, g = .trackerStatus tr ∨ g = .trackerPeriod tr) ∨ (∃ i, g = .head i) ∨ ∃ w i, g = .status w i

theorem State.writeReg_readOnly {g : Reg} (h : g.isReadOnly) (v : Word) : s.writeReg g v = s := by
  rcases h with rfl | rfl | rfl | rfl | rfl | rfl | rfl | ⟨_, rfl | rfl⟩ | ⟨_, rfl⟩ | ⟨_, _, rfl⟩ <;> rfl

/-! ### The kind mask and the argument read back (R159, R163, R171) -/

theorem State.writeMask_reads (v : Word) : (s.writeMask v).readReg .kindMask = v &&& 0x0000FFFE := by
  have hlow : (v.extractLsb' 0 16).setWidth 32 = v &&& field (BitVec.allOnes 16).toNat 0 := by
    rw [← field_extractLsb', field, BitVec.ofNat_toNat, BitVec.shiftLeft_zero]
  show (v.extractLsb' 0 16 &&& 0xFFFE).setWidth 32 = _
  rw [BitVec.setWidth_and, hlow, BitVec.and_assoc]
  rfl

theorem sourceOf_bits (v : Word) : (sourceOf (bitsOf v 16 2)).code = (v.extractLsb' 16 2).toNat := by
  unfold bitsOf
  generalize v.extractLsb' 16 2 = x
  revert x
  decide

theorem closeModeOf_code (b : Bool) : (if b then CloseMode.discard else .commit).code = b.toNat := by cases b <;> rfl

theorem State.writeArgument_reads (v : Word) : (s.writeArgument v).readReg .argument = v &&& 0x0003010F := by
  have hmode : field (v.getLsbD 8).toNat 8 = field (v.extractLsb' 8 1).toNat 8 := flag_getLsbD v 8
  show field (v.extractLsb' 0 4).toNat 0 ||| field (if v.getLsbD 8 then CloseMode.discard else .commit).code 8 |||
    field (sourceOf (bitsOf v 16 2)).code 16 = _
  rw [closeModeOf_code, hmode, sourceOf_bits]
  simp only [field_extractLsb', ← BitVec.and_or_distrib_left]
  rfl

/-- Settles O58: a write is judged as the word its lanes merge (`State.mergeWrite_byte`), by the register its aligned offset selects; and each
register shows its fields, none of which reaches into the next (`or_field_toNat`). -/
theorem registerWrites : Obligations.RegisterWrites := by
  intro s o d v
  refine ⟨fun g i => s.mergeWrite_byte g d i, fun g h => exec_registerWrite_merged h d, exec_registerWrite_aligned o d,
    fun h => exec_registerWrite_unmapped h d, fun g h hro => ?_, ⟨s.writeMask v, ?_, rfl, ?_⟩, ⟨s.writeArgument v, ?_, rfl, ?_⟩,
    codesOfTheTable, s.globals_show, ?_, s.descriptor_shows, fun w => s.status_shows, s.notifications_show⟩
  · rw [exec_registerWrite h, State.writeReg_readOnly hro]
  · exact exec_registerWrite_full (g := .kindMask) rfl v
  · exact (State.readOffset_of rfl).trans (State.writeMask_reads v)
  · exact exec_registerWrite_full (g := .argument) rfl v
  · exact (State.readOffset_of rfl).trans (State.writeArgument_reads v)
  · intro x hx hl
    rcases List.mem_pair.mp hx with rfl | rfl
    · exact s.tracker_shows hl rfl rfl rfl rfl
    · exact s.tracker_shows hl rfl rfl rfl rfl

end Sys2Proof.Machine
end

section
/-! The command register: which codes it knows, and when no command is taken (R162, R163). -/

namespace Sys2Proof.Machine

variable {s : State} {code : BitVec 8}

/-- A command of the slot while INIT is in progress (R163). -/
theorem State.command_busy (h : s.port.busy = true) (c : CommandName) : s.command c = s.refuseBusy := if_pos h

/-- The rows of the slot are writes of the command register with a defined code (R162). -/
theorem exec_slotCommand {c : Instr} (hc : c ∈ [Instr.openWindow, .closeWindow, .selectSource, .beatNow, .initCommand]) :
    ∃ name, exec c s = .next (s.command name) := by
  simp only [List.mem_cons, List.not_mem_nil, or_false] at hc
  rcases hc with rfl | rfl | rfl | rfl | rfl
  · exact ⟨.openW, rfl⟩
  · exact ⟨.closeW, rfl⟩
  · exact ⟨.selectSource, rfl⟩
  · exact ⟨.beatNow, rfl⟩
  · exact ⟨.init, rfl⟩

/-- While INIT is in progress the code does not matter (R163). -/
theorem State.commandWrite_busy (h : s.port.busy = true) (code : BitVec 8) : s.commandWrite code = s.refuseBusy := by
  unfold State.commandWrite
  split
  · exact State.command_busy h _
  · exact if_pos h

/-- The slot has a command for each code but the undefined ones (R159, R162). -/
theorem commandOf_eq_none_iff : ∀ code : BitVec 8, commandOf code = none ↔ undefinedCode code = true := by decide

theorem State.commandWrite_undefined (hb : s.port.busy = false) (hc : undefinedCode code = true) :
    s.commandWrite code = s.ignoreWrite := by
  rw [State.commandWrite, (commandOf_eq_none_iff code).mpr hc]
  exact if_neg (Bool.eq_false_iff.mp hb)

/-- Settles O52: a busy slot refuses every write of the command register (`State.commandWrite_busy`); a free one ignores the codes that name no
command (`commandOf_eq_none_iff`). -/
theorem commandsThatAreNotTaken : Obligations.CommandsThatAreNotTaken := by
  refine fun s => ⟨fun hb c hc => ?_, fun code => ⟨fun hb => ?_, fun hb hcode => ?_⟩⟩
  · obtain ⟨name, hexec⟩ := exec_slotCommand hc
    rw [hexec, State.command_busy hb]
    rfl
  · exact congrArg Host.Outcome.next (State.commandWrite_busy hb code)
  · exact congrArg Host.Outcome.next (State.commandWrite_undefined hb hcode)

end Sys2Proof.Machine
end

section
/-! The writes of the flags and of the notification unit's registers (R160, R161, R175, R177, R178). -/

namespace Sys2Proof.Machine

variable {s : State}

/-- INT is asserted while it is enabled and a record waits (R178). -/
theorem State.intLine_iff : s.intLine = true ↔ s.notif.intEnable = true ∧ s.notif.queue ≠ [] := by
  simp [State.intLine, and_comm]

theorem State.popHead_of_queue {q : List NotifRecord} (h : s.notif.queue.tail = q) :
    s.popHead = { s with notif := { s.notif with queue := q } } := by
  rw [State.popHead, h]

theorem exec_interruptEnableWrite (v : Word) : exec (.interruptEnableWrite ⟨v, 0xF⟩) s = .next (s.writeIntEnable v) := by
  show Host.Outcome.next (s.writeIntEnable (s.mergeWrite .interruptEnable ⟨v, 0xF⟩)) = _
  rw [State.mergeWrite_full]

/-- Settles O55: a pop leaves the queue's tail, the interrupt enable is bit 0 of the word written, and INT follows it (`State.intLine_iff`). -/
theorem flagAndNotificationWrites : Obligations.FlagAndNotificationWrites := by
  refine fun s v => ⟨rfl, rfl, fun hq => ?_, fun x q hq => ?_, rfl, s.writeIntEnable v, exec_interruptEnableWrite v, rfl, State.intLine_iff⟩
  · have hpop : s.popHead = { s with notif := { s.notif with queue := s.notif.queue } } :=
      State.popHead_of_queue (by rw [hq, List.tail_nil])
    exact congrArg Host.Outcome.next hpop
  · exact congrArg Host.Outcome.next (State.popHead_of_queue (by rw [hq, List.tail_cons]))

end Sys2Proof.Machine
end

section
/-! The writes of the register window are those that the registers' owners judge (R156, R158 to R163). -/

namespace Sys2Proof.Machine

variable {s : State} {d : BusWrite}

/-! ### Bits of byte lane 0 (R156) -/

/-- With byte lane 0 enabled, a bit of it is judged as it is written (R156). -/
theorem State.mergeWrite_lowBit (hlane : d.lanes.getLsbD 0 = true) (g : Reg) {i : Nat} (hi : i < 8) :
    (s.mergeWrite g d).getLsbD i = d.value.getLsbD i := by
  rw [State.mergeWrite_getLsbD s g d i (by omega), Nat.div_eq_of_lt hi, if_pos hlane]

/-- The tracker enable register: bit 0 chooses between enable set and enable clear (R158, R159). -/
theorem exec_registerWrite_trackerEnable {o : BitVec 12} {tr : BeatLine} (h : regAt o = some (.trackerEnable tr))
    (hlane : d.lanes.getLsbD 0 = true) :
    exec (.registerWrite o d) s =
      if d.value.getLsbD 0 then exec (.trackerEnableSet tr) s else exec (.trackerEnableClear tr) s := by
  rw [exec_registerWrite h]
  show Host.Outcome.next (s.writeTrackerEnable tr (s.mergeWrite (.trackerEnable tr) d)) = _
  rw [State.writeTrackerEnable, State.mergeWrite_lowBit hlane _ (by omega), apply_ite Host.Outcome.next]
  rfl

/-- Of the flags register, the two lowest bits alone are judged (R159 to R161). -/
theorem State.writeFlags_congr {u v : Word} (h0 : u.getLsbD 0 = v.getLsbD 0) (h1 : u.getLsbD 1 = v.getLsbD 1) :
    s.writeFlags u = s.writeFlags v := by
  rw [State.writeFlags, State.writeFlags, h0, h1]

theorem exec_registerWrite_flags (hlane : d.lanes.getLsbD 0 = true) {b : BitVec 2} (hb : d.value.extractLsb' 0 2 = b) :
    exec (.registerWrite 0x004 d) s = .next (s.writeFlags (b.setWidth 32)) := by
  have hbit (i : Nat) (hi : i < 2) : (s.mergeWrite .flags d).getLsbD i = (b.setWidth 32).getLsbD i := by
    rw [State.mergeWrite_lowBit hlane _ (by omega), BitVec.getLsbD_setWidth, ← hb, BitVec.getLsbD_extractLsb']
    simp [hi, show i < 32 by omega]
  rw [exec_registerWrite (g := .flags) rfl]
  exact congrArg Host.Outcome.next (State.writeFlags_congr (hbit 0 (by omega)) (hbit 1 (by omega)))

/-! ### The command register (R162) -/

/-- The code written: a read of the command register shows 0, so a disabled byte lane 0 gives code 0 (R156, R158). -/
theorem exec_registerWrite_command :
    exec (.registerWrite 0x050 d) s =
      .next (s.commandWrite (if d.lanes.getLsbD 0 then d.value.extractLsb' 0 8 else 0)) := by
  have hcode : (s.mergeWrite .command d).extractLsb' 0 8 = if d.lanes.getLsbD 0 then d.value.extractLsb' 0 8 else 0 :=
    s.mergeWrite_byte .command d 0
  rw [exec_registerWrite (g := .command) rfl, ← hcode]
  rfl

/-- Settles O59: each offset selects its register (R158), whose write is judged by its owner (`exec_registerWrite`); the flags, the trackers'
enables and the command register are then told apart by the bits of byte lane 0. -/
theorem registerWritesReachTheirOwners : Obligations.RegisterWritesReachTheirOwners := by
  intro s d
  refine ⟨exec_registerWrite (g := .holdLimit) rfl d, exec_registerWrite (g := .minimumGap) rfl d,
    exec_registerWrite (g := .internalPeriod) rfl d, exec_registerWrite (g := .failoverEnable) rfl d,
    exec_registerWrite (g := .trackerConfig .a) rfl d, exec_registerWrite (g := .trackerConfig .b) rfl d,
    exec_registerWrite (g := .pop) rfl d, exec_registerWrite (g := .overflowCount) rfl d,
    exec_registerWrite (g := .interruptEnable) rfl d, fun w i => exec_registerWrite (regAt_descriptor w i) d, fun hlane => ?_, ?_⟩
  · refine ⟨fun x hx => ?_, exec_registerWrite_flags hlane, exec_registerWrite_flags hlane, exec_registerWrite_flags hlane,
      exec_registerWrite_flags hlane⟩
    rcases List.mem_pair.mp hx with rfl | rfl
    · exact exec_registerWrite_trackerEnable rfl hlane
    · exact exec_registerWrite_trackerEnable rfl hlane
  · intro code hcode
    rw [exec_registerWrite_command, ← hcode]
    refine ⟨?_, ?_, ?_, ?_, ?_, fun _ => rfl⟩
    all_goals
      rintro rfl
      rfl

end Sys2Proof.Machine
end

section
/-! The rule by which an event offered for recording is masked, coalesced, recorded or dropped (R171, R173, R177). -/

namespace Sys2Proof.Machine

variable {n : Notifier} {x y : NotifRecord}

/-- A record is for the event's kind and subject where the two share their key (R172). -/
theorem NotifRecord.isFor_iff : y.isFor x.kind x.subject = true ↔ x.sameKey y := by
  rw [NotifRecord.isFor, NotifRecord.sameKey, Bool.and_eq_true, beq_iff_eq, beq_iff_eq, eq_comm (a := y.kind), eq_comm (a := y.subject)]

/-- Coalescing passes over the records of other keys and raises the count of the first match alone (R173). -/
theorem coalesce_first {pre post : List NotifRecord} (hpre : ∀ z ∈ pre, ¬ x.sameKey z) (hy : x.sameKey y) :
    coalesce x.kind x.subject (pre ++ y :: post) = pre ++ { y with count := satInc y.count } :: post := by
  induction pre with
  | nil => exact if_pos (NotifRecord.isFor_iff.mpr hy)
  | cons z pre ih =>
    have hz : ¬ z.isFor x.kind x.subject = true := fun h => hpre z List.mem_cons_self (NotifRecord.isFor_iff.mp h)
    have hrest := ih fun w hw => hpre w (List.mem_cons_of_mem z hw)
    rw [List.cons_append, coalesce, if_neg hz, hrest, List.cons_append]

/-- An event whose kind's mask bit is set is coalesced where a record other than the head matches it (R173). -/
theorem Notifier.record_of_match (hm : n.mask.getLsbD x.kind.code = true) (hy : y ∈ n.queue.tail) (hk : x.sameKey y) :
    n.record x = { n with queue := n.queue.take 1 ++ coalesce x.kind x.subject n.queue.tail } := by
  have hfor : y.isFor x.kind x.subject = true := NotifRecord.isFor_iff.mpr hk
  rcases n.record_cases x with ⟨-, hoff⟩ | ⟨e, -⟩ | ⟨-, -, hnone⟩ | ⟨-, -, hnone⟩
  · exact absurd (hm.symm.trans hoff) nofun
  · exact e
  · exact absurd (hfor.symm.trans (hnone y hy)) nofun
  · exact absurd (hfor.symm.trans (hnone y hy)) nofun

/-- With no match behind the head the event is a new record at the tail, or, the queue being full, counted as dropped (R173, R177). -/
theorem Notifier.record_of_noMatch (hm : n.mask.getLsbD x.kind.code = true) (hnone : ∀ y ∈ n.queue.tail, ¬ x.sameKey y) :
    n.record x =
      if n.queue.length < 32 then { n with queue := n.queue ++ [x] } else { n with overflow := satInc n.overflow } := by
  rcases n.record_cases x with ⟨-, hoff⟩ | ⟨-, y, hy, hfor⟩ | ⟨e, hl, -⟩ | ⟨e, hl, -⟩
  · exact absurd (hm.symm.trans hoff) nofun
  · exact absurd (NotifRecord.isFor_iff.mp hfor) (hnone y hy)
  · rw [e, if_pos hl]
  · rw [e, if_neg (Nat.not_lt.mpr hl)]

/-- Settles O60: recording by the cases of R173 (`Notifier.record_of_match`, `Notifier.record_of_noMatch`), the coalesced record being the
first match behind the head (`coalesce_first`). -/
theorem eventsAreRecordedByTheRule : Obligations.EventsAreRecordedByTheRule := by
  refine ⟨fun _ _ _ _ _ => rfl, fun n x => ⟨fun hm => if_pos (by rw [hm]; rfl), fun hm => ⟨?_, fun hnone => ⟨?_, ?_⟩⟩⟩⟩
  · intro h y pre post hq hy hpre
    rw [Notifier.record_of_match hm (by rw [hq]; simp) hy, hq, ← satInc_eq]
    show { n with queue := [h] ++ coalesce x.kind x.subject (pre ++ y :: post) } = _
    rw [coalesce_first hpre hy]
    rfl
  · intro hl
    rw [Notifier.record_of_noMatch hm hnone, if_pos hl]
  · intro hl
    rw [Notifier.record_of_noMatch hm hnone, if_neg (Nat.not_lt.mpr hl), satInc_eq]

end Sys2Proof.Machine
end

section
/-! The law of the notification queue and of its counts through every step (R170, R172, R173, R175, R177). -/

namespace Sys2Proof.Machine

/-- What a step can make of the notification unit: events offered for recording (R173), each with a count of 1 (R170), the writes of its
registers (R171, R175, R177, R178), the end of INIT (R168) and a reset (R179). -/
inductive Notifier.Becomes (n : Notifier) : Notifier → Prop
  | refl : n.Becomes n
  | record {m : Notifier} (x : NotifRecord) : x.count = 1 → n.Becomes m → n.Becomes (m.record x)
  | popped {m : Notifier} : n.Becomes m → n.Becomes { m with queue := m.queue.tail }
  | overflowCleared {m : Notifier} : n.Becomes m → n.Becomes { m with overflow := 0 }
  | masked {m : Notifier} (v : BitVec 16) : n.Becomes m → n.Becomes { m with mask := v }
  | intEnabled {m : Notifier} (b : Bool) : n.Becomes m → n.Becomes { m with intEnable := b }
  | initEnded {m : Notifier} : n.Becomes m → n.Becomes { m with queue := [], overflow := 0 }
  | reset : n.Becomes Notifier.reset

variable {n m : Notifier} {s t u : State}

/-! ### What the changes keep -/

/-- No change breaks the law of the queue (R172). -/
theorem Notifier.Becomes.lawful (h : n.Becomes m) (hn : n.lawful) : m.lawful := by
  induction h with
  | refl => exact hn
  | record x _ _ ih => exact Notifier.record_lawful _ x ih
  | popped _ ih =>
    obtain ⟨hlength, hkeys⟩ := ih
    exact ⟨(List.length_tail ▸ Nat.sub_le _ 1).trans hlength, hkeys.tail⟩
  | overflowCleared _ ih => exact ih
  | masked _ _ ih => exact ih
  | intEnabled _ _ ih => exact ih
  | initEnded => exact ⟨Nat.zero_le _, .nil⟩
  | reset => exact ⟨Nat.zero_le _, .nil⟩

/-- Coalescing keeps every occurrence count at 65535 or below, for the count it raises saturates (R2, R173). -/
theorem coalesce_counts (k : NotifKind) (u : Subject) {l : List NotifRecord} (h : ∀ x ∈ l, x.count ≤ 65535) :
    ∀ x ∈ coalesce k u l, x.count ≤ 65535 := by
  induction l with
  | nil => exact h
  | cons y l ih =>
    obtain ⟨hy, hl⟩ := List.forall_mem_cons.mp h
    unfold coalesce
    split
    · exact List.forall_mem_cons.mpr ⟨satInc_le _ hy, hl⟩
    · exact List.forall_mem_cons.mpr ⟨hy, ih hl⟩

theorem Notifier.record_counted {x : NotifRecord} (hx : x.count = 1) (h : n.counted) : (n.record x).counted := by
  obtain ⟨hcounts, hoverflow⟩ := h
  rcases n.record_cases x with ⟨e, -⟩ | ⟨e, -⟩ | ⟨e, -⟩ | ⟨e, -⟩ <;> rw [e]
  · exact ⟨hcounts, hoverflow⟩
  · refine ⟨List.forall_mem_append.mpr ⟨fun y hy => hcounts y (List.mem_of_mem_take hy), ?_⟩, hoverflow⟩
    exact coalesce_counts _ _ fun y hy => hcounts y (List.mem_of_mem_tail hy)
  · exact ⟨List.forall_mem_append.mpr ⟨hcounts, by simp [hx]⟩, hoverflow⟩
  · exact ⟨hcounts, satInc_le _ hoverflow⟩

/-- No change takes a count above 65535 (R170, R177). -/
theorem Notifier.Becomes.counted (h : n.Becomes m) (hn : n.counted) : m.counted := by
  induction h with
  | refl => exact hn
  | record _ hx _ ih => exact Notifier.record_counted hx ih
  | popped _ ih =>
    obtain ⟨hcounts, hoverflow⟩ := ih
    exact ⟨fun y hy => hcounts y (List.mem_of_mem_tail hy), hoverflow⟩
  | overflowCleared _ ih =>
    obtain ⟨hcounts, -⟩ := ih
    exact ⟨hcounts, Nat.zero_le _⟩
  | masked _ _ ih => exact ih
  | intEnabled _ _ ih => exact ih
  | initEnded => exact ⟨nofun, Nat.zero_le _⟩
  | reset => exact ⟨nofun, Nat.zero_le _⟩

/-! ### Events -/

theorem Notifier.Becomes.ite {c : Prop} [Decidable c] (ht : n.Becomes t.notif) (hu : n.Becomes u.notif) :
    n.Becomes (if c then t else u).notif := by
  split
  · exact ht
  · exact hu

theorem Notifier.Becomes.notify (h : n.Becomes t.notif) (k : NotifKind) (u : Subject) (l : Option Line) (i : Option Initiator) :
    n.Becomes (t.notify k u l i).notif := h.record _ rfl

theorem Notifier.Becomes.setTracker (h : n.Becomes t.notif) (tr : BeatLine) (v : Tracker) : n.Becomes (t.setTracker tr v).notif :=
  t.setTracker_notif tr v ▸ h

/-- A re-examination reaches the notification unit by what it records alone (R173). -/
theorem Notifier.becomes_passKeeps (n : Notifier) : PassKeeps fun t => n.Becomes t.notif where
  notify _ _ _ _ _ h := h.notify _ _ _ _
  update _ _ _ _ h := h
  allocate _ _ _ _ _ _ h := h
  merge _ _ _ _ h := h
  rehold _ _ _ _ _ _ h := h
  answer _ _ _ _ _ h := h
  send _ _ _ _ _ _ _ _ h := h

theorem Notifier.Becomes.drainIssue (h : n.Becomes t.notif) : n.Becomes t.drainIssue.notif := t.drainIssue_notif ▸ h

theorem Notifier.Becomes.closeEvent (h : n.Becomes t.notif) (d snt : Bool) (trig : List Nat) :
    n.Becomes (t.closeEvent d snt trig).notif :=
  State.closeEvent_keeps (P := fun t => n.Becomes t.notif) (fun t g hg _ => t.reclassify_keeps n.becomes_passKeeps g hg)
    (fun _ h => h) (fun _ h => h.drainIssue) t d snt trig h

theorem Notifier.Becomes.testOff (h : n.Becomes t.notif) (w : WindowId) : n.Becomes (t.testOff w).notif :=
  .ite (Notifier.Becomes.notify (t := t.updWindow w Window.turnedOff) h _ _ _ _) h

theorem Notifier.Becomes.testInitEnd (h : n.Becomes t.notif) : n.Becomes t.testInitEnd.notif := .ite h.initEnded h

/-! ### The two ports -/

theorem Notifier.Becomes.takeRequest (h : n.Becomes t.notif) (r : Request) : n.Becomes (t.takeRequest r).notif := by
  have entered : ∀ x : Steered, (t.enter r x).notif = x.state.notif := fun x => by
    unfold State.enter
    dsimp only
    split <;> rfl
  have judged : n.Becomes (t.judgeNew r).state.notif := by
    unfold State.judgeNew
    split
    · exact h.notify _ _ _ _
    · exact classify_keeps n.becomes_passKeeps.toSteeringKeeps t _ _ _ _ h
  exact Notifier.Becomes.closeEvent (entered _ ▸ judged) _ _ _

theorem Notifier.Becomes.takePresented (h : n.Becomes t.notif) : n.Becomes t.takePresented.notif := by
  unfold State.takePresented
  split
  · split
    · next rest _ => exact Notifier.Becomes.takeRequest (t := { t with hostBus := rest }) h _
    · exact h
  · exact h

theorem Notifier.Becomes.timeout (h : n.Becomes t.notif) (g : Held) : n.Becomes (t.timeout g).notif := by
  have counted : n.Becomes (((t.unhold g.order).determine g.order g.request.initiator .error).countTimeout g.window).notif := by
    cases g.window <;> exact h
  exact (counted.notify _ _ _ _).closeEvent _ _ _

theorem Notifier.Becomes.hostCompletion (h : n.Becomes t.notif) (k : Nat) (a : MemAnswer) : n.Becomes (t.hostCompletion k a).notif := by
  unfold State.hostCompletion
  split
  · refine .testInitEnd (.drainIssue ?_)
    cases a <;> exact h
  · exact h

theorem Notifier.Becomes.drained (h : n.Becomes t.notif) (w : WindowId) (l : Line) : n.Becomes (t.drained w l).notif := by
  rw [State.drained_eq]
  exact (Notifier.Becomes.testOff (t := t.entryFreed w l) h w).closeEvent _ _ _

/-- The second error of a drain write is recorded (R117). -/
theorem Notifier.Becomes.dropEntry (h : n.Becomes t.notif) (w : WindowId) (l : Line) : n.Becomes (t.dropEntry w l).notif := by
  have dropped : n.Becomes (t.dropped w l).notif := h.record _ rfl
  rw [State.dropEntry_eq]
  exact dropped.closeEvent _ _ _

theorem Notifier.Becomes.firstError (h : n.Becomes t.notif) (w : WindowId) (l : Line) : n.Becomes (t.firstError w l).notif := by
  rw [State.firstError_eq]
  refine .ite ?_ (Notifier.Becomes.drainIssue (t := t.requeue w l) h)
  rw [State.drainIssueBut_notif]
  exact h

theorem Notifier.Becomes.drainCompletion (h : n.Becomes t.notif) (l : Line) (a : DrainAnswer) :
    n.Becomes (t.drainCompletion l a).notif := by
  have erased : n.Becomes ({ t with outstanding := t.outstanding.eraseP (·.drains l) } : State).notif := h
  unfold State.drainCompletion
  split
  · refine .ite erased.testInitEnd ?_
    split
    · exact erased.drainIssue
    · exact erased.drained _ l
    · exact .ite (erased.dropEntry _ l) (erased.firstError _ l)
  · exact h

/-! ### Beats -/

/-- What a delivered beat records, outcome by outcome (R92, R95 to R97). -/
theorem Notifier.becomes_beatKeeps (n : Notifier) (b : BitVec 32) : BeatKeeps (fun t => n.Becomes t.notif) b where
  countDown _ _ _ h := h
  idle _ _ _ _ h := h
  commit _ _ _ _ h := .ite (h.record _ rfl) h
  slip _ _ _ _ h := .ite h (h.record _ rfl)
  lateDiscard _ _ _ h := h.record _ rfl
  lateCarry _ _ _ _ h := .ite h (h.record _ rfl)
  close _ d trig h := h.closeEvent d false trig

theorem Notifier.Becomes.evalBeat (h : n.Becomes t.notif) : n.Becomes t.evalBeat.notif :=
  State.evalBeat_keeps (P := fun t => n.Becomes t.notif) t (n.becomes_beatKeeps _) h

/-- A candidate that completes a switch records it (R148). -/
theorem Notifier.Becomes.offer (h : n.Becomes t.notif) (c : Source) : n.Becomes (t.offer c).2.notif := by
  rcases t.offer_cases c with ⟨e, -⟩ | ⟨e, -⟩ | ⟨-, -, -, e⟩ | ⟨-, -, -, -, e⟩ <;> rw [e]
  · exact h
  · exact h
  · exact Notifier.Becomes.evalBeat h
  · exact Notifier.Becomes.evalBeat (h.record _ rfl)

theorem Notifier.Becomes.failover (h : n.Becomes t.notif) (c : Source) : n.Becomes (t.failover c).notif := h.record _ rfl

theorem Notifier.Becomes.miss (h : n.Becomes t.notif) (tr : BeatLine) : n.Becomes (t.miss tr).notif := by
  have lost : n.Becomes (t.lockLost tr).notif := (h.setTracker tr _).notify _ _ _ _
  rw [State.miss_eq]
  exact .ite (.ite (lost.failover _) lost) ((h.setTracker tr _).offer _)

theorem Notifier.Becomes.takeOverdue (tr : BeatLine) (k : Nat) (h : n.Becomes t.notif) :
    n.Becomes (State.takeOverdue tr k t).notif := by
  induction k generalizing t with
  | zero => exact h
  | succ k ih => exact .ite (ih (h.miss tr)) h

theorem Notifier.Becomes.judgeEdge (h : n.Becomes t.notif) (tr : BeatLine) : n.Becomes (t.judgeEdge tr).notif := by
  unfold State.judgeEdge
  dsimp only
  split
  · exact h
  · exact .ite (h.setTracker tr _) ((h.setTracker tr _).offer _)

theorem Notifier.Becomes.edge (h : n.Becomes t.notif) (tr : BeatLine) : n.Becomes (t.edge tr).notif := by
  unfold State.edge
  split
  · exact h
  · exact h.setTracker tr _
  · exact .ite ((h.setTracker tr _).notify _ _ _ _) (h.setTracker tr _)
  · exact h.judgeEdge tr
  · exact h.judgeEdge tr

theorem Notifier.Becomes.internalTick (h : n.Becomes t.notif) : n.Becomes t.internalTick.notif :=
  Notifier.Becomes.offer (t := { t with sel := { t.sel with nextTime := t.timeBase + t.sel.period.toNat } }) h .internal

/-! ### Commands of the slot -/

theorem Notifier.Becomes.beatNow (h : n.Becomes t.notif) : n.Becomes t.beatNow.2.notif := by
  have offered := h.offer .soft
  unfold State.beatNow
  split
  · split
    · next e => rw [e] at offered; exact offered
    · next e => rw [e] at offered; exact offered
  · exact h

theorem Notifier.Becomes.closeTo (h : n.Becomes t.notif) (w : WindowId) (c : CloseMode) : n.Becomes (t.closeTo w c).notif := by
  have marked : n.Becomes (t.closeMarked w c).notif := by cases c <;> exact h
  rw [State.closeTo_eq]
  exact (marked.testOff w).closeEvent _ _ _

theorem Notifier.Becomes.closeWindow (h : n.Becomes t.notif) (w : WindowId) (c : CloseMode) :
    n.Becomes (t.closeWindow w c).2.notif := by
  unfold State.closeWindow
  split
  case h_2 => exact h.closeTo w _
  case h_4 => exact .ite h (h.closeTo w _)
  case h_6 => exact h.closeTo w _
  all_goals exact h

theorem Notifier.Becomes.selectSource (h : n.Becomes t.notif) (c : Source) : n.Becomes (t.selectSource c).2.notif := by
  unfold State.selectSource
  split
  · exact h
  · split
    · split <;> exact h
    · exact h

theorem Notifier.Becomes.openWindow (h : n.Becomes t.notif) (w : WindowId) : n.Becomes (t.openWindow w).2.notif := by
  unfold State.openWindow
  split <;> exact h

theorem Notifier.Becomes.takeInit (h : n.Becomes t.notif) : n.Becomes t.takeInit.notif := by
  have answered : n.Becomes t.initTaken.answerHeld.notif := by
    rw [State.answerHeld_fields]
    exact h
  exact answered.testInitEnd

theorem Notifier.Becomes.command (h : n.Becomes t.notif) (c : CommandName) : n.Becomes (t.command c).notif := by
  refine .ite h ?_
  cases c with
  | openW => exact h.openWindow t.port.argument.window
  | closeW => exact h.closeWindow t.port.argument.window t.port.argument.mode
  | selectSource => exact h.selectSource t.port.argument.source
  | beatNow => exact h.beatNow
  | init => exact h.takeInit

theorem Notifier.Becomes.commandWrite (h : n.Becomes t.notif) (code : BitVec 8) : n.Becomes (t.commandWrite code).notif := by
  unfold State.commandWrite
  split
  · exact h.command _
  · exact .ite h h

/-! ### Register writes -/

theorem Notifier.Becomes.writeDescriptor (h : n.Becomes t.notif) (w : WindowId) (i : Fin 6) (v : Word) :
    n.Becomes (t.writeDescriptor w i v).notif := by
  unfold State.writeDescriptor
  split
  · split <;> exact h
  · exact h

theorem Notifier.Becomes.enableTracker (h : n.Becomes t.notif) (tr : BeatLine) : n.Becomes (t.enableTracker tr).notif :=
  .ite (h.setTracker tr _) h

theorem Notifier.Becomes.disableTracker (h : n.Becomes t.notif) (tr : BeatLine) : n.Becomes (t.disableTracker tr).notif :=
  .ite h (.ite h (h.setTracker tr _))

/-- The registers of the notification unit change it as they say, and a write of the failover enable can record a failover; the command
register runs its command (R151, R156). -/
theorem Notifier.Becomes.writeReg (h : n.Becomes t.notif) (g : Reg) (v : Word) : n.Becomes (t.writeReg g v).notif := by
  cases g with
  | command => exact h.commandWrite _
  | pop => exact h.popped
  | overflowCount => exact h.overflowCleared
  | kindMask => exact h.masked _
  | interruptEnable => exact h.intEnabled _
  | failoverEnable => exact .ite (Notifier.Becomes.failover h _) h
  | trackerConfig tr => exact .ite h (.ite (h.setTracker tr _) h)
  | trackerEnable tr => exact .ite (h.enableTracker tr) (h.disableTracker tr)
  | descriptor w i => exact h.writeDescriptor w i v
  | flags => exact .ite (Notifier.Becomes.ite (u := t) h h) (.ite h h)
  | holdLimit | minimumGap | internalPeriod => exact .ite h h
  | _ => exact h

/-! ### Every step -/

/-- What every command makes of the notification unit. -/
theorem exec_notifier {c : Instr} (h : exec c s = .next t) : s.notif.Becomes t.notif := by
  have start : s.notif.Becomes s.notif := .refl
  cases c <;> obtain rfl := Host.Outcome.next.inj h
  case hardwareReset => exact .reset
  case hostSideRequest r => exact Notifier.Becomes.takePresented start
  case hostOriginCompletion k a => exact start.hostCompletion k a
  case drainCompletion l a => exact start.drainCompletion l a
  case holdTimeout k =>
    split
    · exact start.timeout _
    · exact start
  case beatEdge tr => exact (start.takeOverdue tr 8).edge tr
  case trackerMiss tr => exact .ite (start.miss tr) start
  case internalCandidate => exact .ite start.internalTick start
  case openWindow => exact start.command .openW
  case closeWindow => exact start.command .closeW
  case selectSource => exact start.command .selectSource
  case beatNow => exact start.command .beatNow
  case initCommand => exact start.command .init
  case initEnd => exact start.testInitEnd
  case undefinedCommand code => exact start.commandWrite code
  case descriptorWrite w i d => exact start.writeReg (.descriptor w i) _
  case holdLimitWrite d => exact start.writeReg .holdLimit _
  case minimumGapWrite d => exact start.writeReg .minimumGap _
  case internalPeriodWrite d => exact start.writeReg .internalPeriod _
  case failoverEnableWrite d => exact start.writeReg .failoverEnable _
  case trackerConfigurationWrite tr d => exact start.writeReg (.trackerConfig tr) _
  case trackerEnableSet tr => exact start.enableTracker tr
  case trackerEnableClear tr => exact start.disableTracker tr
  case pop => exact start.popped
  case overflowCountClear => exact start.overflowCleared
  case interruptEnableWrite d => exact start.writeReg .interruptEnable _
  case registerWrite o d =>
    unfold State.busWrite
    split
    · exact start.writeReg _ _
    · exact start
  all_goals exact start

/-- What a step on an empty queue makes of it (R1). -/
theorem State.idle_notifier (s : State) : s.notif.Becomes s.idle.notif := by
  have start : s.notif.Becomes s.notif := .refl
  refine .ite (start.miss .a) (.ite (start.miss .b) ?_)
  split
  · exact start.timeout _
  · exact .ite start.internalTick (.ite start.takePresented start)

/-- What every step makes of the notification unit. -/
theorem step_notifier (h : step s = .next t) : s.notif.Becomes t.notif := by
  rcases hp : s.pending with _ | ⟨c, rest⟩
  · rw [step_idle hp] at h
    obtain rfl := Host.Outcome.next.inj h
    exact s.idle_notifier
  · rw [step_front hp] at h
    exact exec_notifier (s := { s with pending := rest }) h

/-- Settles O6: a step changes the notification unit as `Notifier.Becomes` says (`step_notifier`), and each of those changes keeps the law of
the queue and the counts. -/
theorem notificationLawIsKept : Obligations.NotificationLawIsKept := fun _ _ hs hst =>
  ⟨(step_notifier hst).lawful hs, (step_notifier hst).counted⟩

end Sys2Proof.Machine
end

section
/-! The command at the front of the model's queue. -/

namespace Sys2Proof.Machine

/-- Settles O1: the branch of `step` on a queue that is not empty, as `step_front` says it for every later proof about a step. -/
theorem stepRunsTheFrontCommand : Obligations.StepRunsTheFrontCommand := fun _ _ _ hp => step_front hp

end Sys2Proof.Machine
end
